-- ==== Sys2Proof/Word.lean ====
section
/-! DEFINITION. The bit-vector types of the channels and registers (rules R5, R7, R70). -/

namespace Sys2Proof

/-- A 128-bit value: an Address Buffer, a Padding Block, a cipher key, a plaintext or ciphertext block
(rule R5, `BLOCK_BITS` and `CIPHER_KEY_BITS`). -/
abbrev Block := BitVec 128

/-- The 256-bit vector that carries the 32-byte Key, byte 0 most significant (rules R5, R8). -/
abbrev KeyWord := BitVec 256

/-- The 32-bit command header `cmd_hdr` (rule R71). -/
abbrev Header := BitVec 32

/-- The 256-bit operand field `cmd_data` of a command word (rule R70). -/
abbrev CmdData := BitVec 256

/-- The 288-bit command word `cmd_hdr ‖ cmd_data` (rule R70). -/
abbrev CmdWord := BitVec 288

/-- A 4-byte IPv4 address, first octet in bits 31:24 (rules R8, R52). -/
abbrev Addr4 := BitVec 32

/-- The 129-bit cipher-core request word `cc_req_kind ‖ cc_req_data` (rule R70). -/
abbrev CcReqWord := BitVec 129

/-- The 129-bit cipher-core response word `cc_rsp_err ‖ cc_rsp_data` (rule R70). -/
abbrev CcRspWord := BitVec 129

/-- The 132-bit response word `rsp_status ‖ rsp_data` (rule R70). -/
abbrev RspWord := BitVec 132

end Sys2Proof
end

