-- ==== Sys2Proof/Config.lean ====
section
/-! DEFINITION. What an implementation fixes and the spec leaves open: the block cipher `E` and the key
test `KEY_OK` (rule R5; `92_eei_decisions.md` D2, D3; `93_implementation_defined.md` U1, U2). Neither has a
body, so nothing can be proved of its values: a theorem of the model holds for every cipher and every key
test (assumption log 1). The third open parameter, `CC_ERR`, is an input of each step and stands in State
(`Pins.draw`, assumption log 3). -/

namespace Sys2Proof.Config

/-- `E(key, block) = ciphertext`: the external 128-bit block cipher, a total deterministic function of its
two operands (rules R5, R17, R100, R101). Left free. -/
opaque E : Block → Block → Block

/-- `KEY_OK(k)`: whether the cipher core accepts the cipher key `k`, a function of the key alone (rules R5,
R106). Left free. -/
opaque keyOk : Block → Bool

end Sys2Proof.Config
end

