-- ==== Sys2Proof/Machine/Operands.lean ====
section
/-! DEFINITION. Operand forms and the pure data path: positions and bytes (rules R7, R8, R52), the prefix
mask and the padded block (rules R10, R11), the flip mask (rules R23, R150, R153), the key split (rule R52), the
IPv4 embedding and extraction (rules R171, R172). -/

namespace Sys2Proof.Machine

/-- Position `p` of a 128-bit value: its bit `127 - p`, position 0 most significant (rule R7). False beyond
position 127. -/
def pos (v : Block) (p : Nat) : Bool := v.getMsbD p

/-- Byte `j` of a 16-byte buffer, byte 0 most significant (rules R8, R52): bits `[127-8j : 120-8j]`. -/
def byte16 (v : Block) (j : Nat) : BitVec 8 := v.extractLsb' (120 - 8 * j) 8

/-- Byte `j` of the 32-byte key (rules R8, R52): bits `[255-8j : 248-8j]`. -/
def byte32 (k : KeyWord) (j : Nat) : BitVec 8 := k.extractLsb' (248 - 8 * j) 8

/-- Octet `j` of an IPv4 address (rules R8, R52): bits `[31-8j : 24-8j]`. -/
def byte4 (a : Addr4) (j : Nat) : BitVec 8 := a.extractLsb' (24 - 8 * j) 8

/-- The unsigned number of a byte string read with its first byte most significant (rule R52). -/
def bigEndian (bytes : List (BitVec 8)) : Nat := bytes.foldl (fun acc b => acc * 256 + b.toNat) 0

/-- `himask(i)`: the top `i` bits set, `1^i ‖ 0^(128-i)` (rule R10), by cases at `i = 0` so that no shift
amount equals the width. -/
def himask (i : Nat) : Block := if i = 0 then 0#128 else BitVec.allOnes 128 <<< (128 - i)

/-- `padded(buf, pad, i)`: the first `i` bits of `buf` and the remaining bits of `pad` (rules R11, R148). -/
def padded (buf pad : Block) (i : Nat) : Block := (buf &&& himask i) ||| (pad &&& ~~~himask i)

/-- The flip bit of a round: the most significant bit of the ciphertext's first byte (rule R153). -/
def flipBit (ct : Block) : Bool := ct.getLsbD 127

/-- FLIP with the flip bit `f` put at position `i`: `FLIP | (zext_128(f) << (127 - i))` (rule R150). -/
def setFlip (flip : Block) (i : Nat) (f : Bool) : Block :=
  flip ||| ((BitVec.ofBool f).setWidth 128 <<< (127 - i))

/-- `cipher_key = key[0:16] = key[255:128]` (rules R52, R76, R121). -/
def cipherKey (k : KeyWord) : Block := k.extractLsb' 128 128

/-- `padding_seed = key[16:32] = key[127:0]` (rules R52, R76, R121). -/
def paddingSeed (k : KeyWord) : Block := k.extractLsb' 0 128

/-- The IPv4 embedding `addr4 ‖ 0^96`: the address in the most significant 32 bits (rules R171, R174). -/
def embedV4 (a : Addr4) : Block := a ++ 0#96

/-- The IPv4 extraction: the most significant 4 bytes of the result (rule R172). -/
def extractV4 (r : Block) : Addr4 := r.extractLsb' 96 32

/-- The form in which a result is delivered: the whole buffer, or with FMT the 4-byte address in
`rsp_data[31:0]` (rules R31, R150, R172). -/
def deliver (fmt : Bool) (r : Block) : Block := if fmt then (extractV4 r).setWidth 128 else r

/-- What the acceptance of a scramble command loads: `(buf0, n, fmt)` of rule R142. -/
structure Job where
  /-- The Address Buffer before the transform. -/
  buf0 : Block
  /-- The bit count. -/
  n : BitVec 8
  /-- The result is delivered as a 4-byte address. -/
  fmt : Bool
  deriving DecidableEq, Repr

/-- SCRAMBLE: the buffer and the bit count as given (rule R142). -/
def jobRaw (nbits : BitVec 8) (buffer : Block) : Job := { buf0 := buffer, n := nbits, fmt := false }

/-- An IPv4 address: 32 rounds over the embedded address, 4-byte result (rules R170, R171). -/
def jobV4 (addr4 : Addr4) : Job := { buf0 := embedV4 addr4, n := 32#8, fmt := true }

/-- An IPv6 address: 128 rounds over the address itself (rule R175). -/
def jobV6 (addr6 : Block) : Job := { buf0 := addr6, n := 128#8, fmt := false }

/-- The transform as a pure function of any cipher `E`, its key, the Padding Block, the buffer and the bit
count (rules R141, R152, R153): the flip mask of the first `n` rounds, every round reading the input buffer
(rule R143). -/
def flipMask (E : Block → Block → Block) (ck pad buf : Block) : Nat → Block
  | 0 => 0#128
  | n + 1 => setFlip (flipMask E ck pad buf n) n (flipBit (E ck (padded buf pad n)))

/-- `scramble(E, ck, pad, buf, n) = buf ^ flip` (rules R141, R152). -/
def scramble (E : Block → Block → Block) (ck pad buf : Block) (n : Nat) : Block :=
  buf ^^^ flipMask E ck pad buf n

end Sys2Proof.Machine
end

