-- ==== Sys2Proof/Machine/State.lean ====
section
/-! DEFINITION. The state of the machine as plain data: the block's eleven registers (rule R20), the part of
the cipher core's state the block depends on (rules R38, R104, R108), and the signals the host and the core
will drive at the coming clock edges (rules R51, R59). There is no memory and no address space (rule R50). -/

namespace Sys2Proof.Machine

/-- The sequencer phase, register PHASE (rule R29). All eight 3-bit values are used; an enumeration is
allowed (`92_eei_decisions.md` D30). -/
inductive Phase where
  | idle | keyReq | keyWait | padReq | padWait | rndReq | rndWait | resp
  deriving DecidableEq, Repr

/-- The seven status codes (rule R190); the codes 0x7 to 0xF are never produced, so they have no
constructor (`93_implementation_defined.md` U13). -/
inductive Status where
  | ok | keyInvalidLength | keyRejected | encryptionError | nbitsRange | notKeyed | illegalCmd
  deriving DecidableEq, Repr

/-- A response word of the RSP channel: `rsp_status`, `rsp_data` (rules R70, R78). -/
structure Rsp where
  /-- `rsp_status`. -/
  status : Status
  /-- `rsp_data`. -/
  data : Block
  deriving DecidableEq, Repr

/-- An answer of the cipher core on the CC response channel: `cc_rsp_err`, `cc_rsp_data` (rules R70, R82). -/
structure CcRsp where
  /-- `cc_rsp_err`. -/
  err : Bool
  /-- `cc_rsp_data`. -/
  data : Block
  deriving DecidableEq, Repr

/-- The choices the spec leaves to the cipher core at one clock edge, as plain data: nothing constrains
them, and every statement about a step holds whatever they are (assumption log 3, 4). The MODEL's own fields. -/
structure Draw where
  /-- `CC_ERR`: whether an ENCRYPT taken at this edge fails (rules R5, R107; `92_eei_decisions.md` D4). -/
  err : Bool
  /-- What `cc_rsp_data` shows where rules R106 and R107 say `rdata = any`
  (`93_implementation_defined.md` U6). -/
  data : Block
  /-- What CK holds after a LOADKEY the core rejects, and after a reset edge (`93_implementation_defined.md`
  U5, U7; rule R108). -/
  ck : Block
  deriving DecidableEq, Repr

/-- The signals driven from outside the block at one rising edge of `clk` (rules R51, R59, R220): any values
(`93_implementation_defined.md` U14). The MODEL's own type; the signals are the spec's. -/
structure Pins where
  /-- `rst`. -/
  rst : Bool
  /-- `cmd_valid`. -/
  cmdValid : Bool
  /-- `cmd_hdr`. -/
  cmdHdr : Header
  /-- `cmd_data`. -/
  cmdData : CmdData
  /-- `rsp_ready`. -/
  rspReady : Bool
  /-- The core is willing to take a request at this edge: `cc_req_ready` while none is pending. -/
  ccReqReady : Bool
  /-- The core has finished the request it has taken: `cc_rsp_valid` while one is pending. -/
  ccRspValid : Bool
  /-- The core's free choices at this edge. -/
  draw : Draw
  deriving DecidableEq, Repr

/-- An edge at which nothing is offered, nothing is ready and `rst = 0`: no handshake can happen and no
register can change (rule R30). What follows when `State.env` lists no further edge. -/
def Pins.quiet : Pins :=
  { rst := false, cmdValid := false, cmdHdr := 0#32, cmdData := 0#256, rspReady := false,
    ccReqReady := false, ccRspValid := false, draw := { err := false, data := 0#128, ck := 0#128 } }

/-- The state of the block, of its cipher core, and of what is driven at the coming edges. -/
structure State where
  /-- PAD: the Padding Block (rule R21). -/
  pad : Block
  /-- KEYED: the only flag (rule R33). -/
  keyed : Bool
  /-- BUF: the Address Buffer of the command in progress (rule R22). -/
  buf : Block
  /-- FLIP: the flip mask accumulated so far (rule R23). -/
  flip : Block
  /-- KREG: the Key during CONSTRUCT (rule R24). -/
  kreg : KeyWord
  /-- RES: `rsp_data` of the response being delivered (rule R25). -/
  res : Block
  /-- I: the position of the current round (rules R26, R27). -/
  i : BitVec 8
  /-- N: `n_bits` of the command in progress (rule R28). -/
  n : BitVec 8
  /-- FMT: the result is delivered as a 4-byte address (rule R31). -/
  fmt : Bool
  /-- STAT: `rsp_status` of the response being delivered (rule R32). -/
  stat : Status
  /-- PHASE: the sequencer phase (rule R29). -/
  phase : Phase
  /-- CK of the cipher core: the cipher key last loaded (rule R38). -/
  ck : Block
  /-- CK_VALID of the cipher core: a cipher key is loaded (rule R38). -/
  ckValid : Bool
  /-- The request pending in the cipher core, if any, held as the answer the core will give to it (rules R104,
  R108). -/
  answer : Option CcRsp
  /-- What is driven at the coming clock edge. -/
  pins : Pins
  /-- What is driven at the edges after it, in order; `Pins.quiet` follows the last. -/
  env : List Pins
  deriving DecidableEq, Repr

/-- The reasons a step can stop with a fault: there are none. Every error of the block is a status in a
response and leaves it usable (rules R190, R196, R197; `00_scope.md` rule R16 point 5), and a core that never
answers is a wait, not a stop (rule R232). -/
inductive Fault where
  deriving DecidableEq, Repr

/-- The reasons a step can be refused. -/
inductive Refusal where
  /-- Raised by an arm of `exec` whose instruction has no meaning yet (safe); no arm raises it now. -/
  | notModelled (mnemonic : String)
  deriving DecidableEq, Repr

/-- The machine right after reset (rules R40, R108, R220): every register of the block zero, PHASE = IDLE, STAT
= 0 (OK), CK_VALID = 0, no request pending and no response offered. CK is unspecified after reset; zero is a
DESIGN CHOICE (assumption log 4). Nothing is driven from outside (assumption log 2). -/
def State.reset : State :=
  { pad := 0#128, keyed := false, buf := 0#128, flip := 0#128, kreg := 0#256, res := 0#128,
    i := 0#8, n := 0#8, fmt := false, stat := .ok, phase := .idle,
    ck := 0#128, ckValid := false, answer := none,
    pins := Pins.quiet, env := [] }

end Sys2Proof.Machine
end

