-- ==== Sys2Proof/Machine/Flags.lean ====
section
/-! DEFINITION. The block's only flag, KEYED, always written together with PAD (rules R21, R33). -/

namespace Sys2Proof.Machine

/-- The end of a Scrambler: `KEYED <- 0; PAD <- 0` (rules R123, R132). -/
def clearKeyed (s : State) : State := { s with keyed := false, pad := 0#128 }

/-- The last step of a successful CONSTRUCT: `PAD <- rdata; KEYED <- 1` (rule R126). -/
def setKeyed (pad : Block) (s : State) : State := { s with keyed := true, pad := pad }

end Sys2Proof.Machine
end

