-- ==== Sys2Proof/Machine/Ops.lean ====
section
/-! DEFINITION. The shared operations: the encodings of PHASE and of the status, raising an error and
returning from it (rules R57, R58, R196, R197), the acceptance of a scramble command (rules R144 to R147), the
cipher core's replies (rules R106, R107), the steps that take an answer (rules R125, R126, R150, R151), the reset
edge (rules R220 to R222) and the passage to the next clock edge. -/

namespace Sys2Proof.Machine

/-! ## Encodings -/

/-- The 3-bit value of PHASE (rule R29). -/
def Phase.code : Phase → BitVec 3
  | .idle => 0#3
  | .keyReq => 1#3
  | .keyWait => 2#3
  | .padReq => 3#3
  | .padWait => 4#3
  | .rndReq => 5#3
  | .rndWait => 6#3
  | .resp => 7#3

/-- The 4-bit `rsp_status` of a status (rule R190). -/
def Status.code : Status → BitVec 4
  | .ok => 0x0#4
  | .keyInvalidLength => 0x1#4
  | .keyRejected => 0x2#4
  | .encryptionError => 0x3#4
  | .nbitsRange => 0x4#4
  | .notKeyed => 0x5#4
  | .illegalCmd => 0x6#4

/-- The 132-bit response word `rsp_status ‖ rsp_data` (rule R70). -/
def Rsp.word (r : Rsp) : RspWord := r.status.code ++ r.data

/-- The 129-bit answer word `cc_rsp_err ‖ cc_rsp_data` (rule R70). -/
def CcRsp.word (a : CcRsp) : CcRspWord := BitVec.ofBool a.err ++ a.data

/-! ## Entering and leaving RESP: taking an error, and returning from it -/

/-- `enter RESP(st, d)`: one simultaneous write that clears every working register but STAT and RES
(rule R57). -/
def enterResp (st : Status) (d : Block) (s : State) : State :=
  { s with
    stat := st, res := d, buf := 0#128, flip := 0#128, kreg := 0#256, i := 0#8, n := 0#8, fmt := false,
    phase := .resp }

/-- `raise <Error>(info)`, the block's trap entry: the single step `enter RESP(code, info)` (rule R196).
Nothing is saved, since nothing is resumed. -/
def raise (error : Status) (info : Block) (s : State) : State := enterResp error info s

/-- `send RSP`, also the return from an error: the response is taken, `STAT <- 0; RES <- 0; PHASE <- IDLE`
(rules R58, R197). -/
def sendRsp (s : State) : State := { s with stat := .ok, res := 0#128, phase := .idle }

/-! ## Acceptance of commands -/

/-- The acceptance action of an illegal command word (rule R84). -/
def acceptIllegal (s : State) : State := raise .illegalCmd 0#128 s

/-- The start of the round loop (rule R146). -/
def startLoop (j : Job) (s : State) : State :=
  { s with buf := j.buf0, n := j.n, i := 0#8, flip := 0#128, fmt := j.fmt, phase := .rndReq }

/-- The acceptance of a scramble command: NOT_KEYED, then NBITS_RANGE, then the zero-bit no-op, then the
start of the loop (rules R142, R144 to R147, R198). -/
def acceptScramble (j : Job) (s : State) : State :=
  if s.keyed = false then raise .notKeyed 0#128 s
  else if 128#8 < j.n then raise .nbitsRange (j.n.setWidth 128) s
  else if j.n = 0#8 then enterResp .ok j.buf0 s
  else startLoop j s

/-- The acceptance of a CONSTRUCT: the length check, and else the old Scrambler is dropped and the key staged
(rules R122, R123). -/
def acceptConstruct (keylen : BitVec 8) (key : KeyWord) (s : State) : State :=
  if keylen ≠ 32#8 then raise .keyInvalidLength (keylen.setWidth 128) s
  else { clearKeyed s with kreg := key, phase := .keyReq }

/-- The acceptance of a DROP (rule R132). -/
def acceptDrop (s : State) : State := enterResp .ok 0#128 (clearKeyed s)

/-! ## The cipher core -/

/-- The core's answer to LOADKEY: `err` says that the key is rejected, the data is any (rule R106). -/
def loadkeyReply (k : Block) (d : Draw) : CcRsp := { err := !Config.keyOk k, data := d.data }

/-- CK after LOADKEY: the key if it is accepted; any value after a rejected one (rule R106;
`93_implementation_defined.md` U7; assumption log 4). -/
def loadkeyCk (k : Block) (d : Draw) : Block := if Config.keyOk k then k else d.ck

/-- The core's answer to ENCRYPT: a failure without a valid key or where the core draws one, else the
ciphertext `E(CK, b)` (rules R101, R107; assumption log 5 for CK_VALID = 0). -/
def encryptReply (ckValid : Bool) (ck b : Block) (d : Draw) : CcRsp :=
  if ckValid && !d.err then { err := false, data := Config.E ck b } else { err := true, data := d.data }

/-- The phase after the core has taken the request offered in a `_REQ` phase (rules R124, R149). -/
def Phase.afterRequest : Phase → Phase
  | .keyReq => .keyWait
  | .padReq => .padWait
  | .rndReq => .rndWait
  | p => p

/-- The CC request handshake: the core holds the request, as the answer it will give, and the block waits
for it (rules R104, R124, R149). No other register is written. -/
def requestTaken (a : CcRsp) (s : State) : State :=
  { s with answer := some a, phase := s.phase.afterRequest }

/-- The core takes LOADKEY: its state changes when it takes the request (rules R104, R106). -/
def takeLoadkey (k : Block) (s : State) : State :=
  { requestTaken (loadkeyReply k s.pins.draw) s with
    ck := loadkeyCk k s.pins.draw, ckValid := Config.keyOk k }

/-- The core takes ENCRYPT: none of its key state changes (rule R107). -/
def takeEncrypt (b : Block) (s : State) : State :=
  requestTaken (encryptReply s.ckValid s.ck b s.pins.draw) s

/-! ## The steps that take the core's answer -/

/-- Phase KEY_WAIT: the LOADKEY answer is taken (rule R125); its data is ignored. -/
def keyAnswered (a : CcRsp) (s : State) : State :=
  if a.err then raise .keyRejected 0#128 s else { s with phase := .padReq }

/-- Phase PAD_WAIT: the answer to the seed ENCRYPT is taken (rule R126). -/
def padAnswered (a : CcRsp) (s : State) : State :=
  if a.err then raise .encryptionError 0#128 s else enterResp .ok 0#128 (setKeyed a.data s)

/-- The flip mask after the answer of the round in progress (rules R150, R153). -/
def nextFlip (a : CcRsp) (s : State) : Block := setFlip s.flip s.i.toNat (flipBit a.data)

/-- Phase RND_WAIT: the answer of round I is taken (rules R27, R150, R151). -/
def rndAnswered (a : CcRsp) (s : State) : State :=
  if a.err then raise .encryptionError 0#128 s
  else if s.i + 1#8 < s.n then { s with flip := nextFlip a s, i := s.i + 1#8, phase := .rndReq }
  else enterResp .ok (deliver s.fmt (s.buf ^^^ nextFlip a s)) s

/-- The block's reaction to an answer, by phase (rule R42). -/
def answered (a : CcRsp) (s : State) : State :=
  match s.phase with
  | .keyWait => keyAnswered a s
  | .padWait => padAnswered a s
  | .rndWait => rndAnswered a s
  | _ => s

/-- The CC response handshake: the pending answer leaves the core and the block reacts (rule R104). -/
def takeAnswer (s : State) : State :=
  match s.answer with
  | none => s
  | some a => answered a { s with answer := none }

/-! ## Clock edges -/

/-- A rising edge with `rst = 1`: every register of the block and of the core takes its reset value, whatever
the phase would have written (rules R40, R108, R220 to R222); CK is any value (`93_implementation_defined.md` U5;
assumption log 4). -/
def resetEdge (s : State) : State :=
  { State.reset with ck := s.pins.draw.ck, pins := s.pins, env := s.env }

/-- The passage to the next clock edge: the signals of the next edge come up, `Pins.quiet` after the
last. -/
def advance (s : State) : State := { s with pins := s.env.headD Pins.quiet, env := s.env.tail }

end Sys2Proof.Machine
end

