-- ==== Sys2Proof/Syntax.lean ====
section
/-! DEFINITION. The instructions: the six commands of the CMD channel and the two requests of the CC request
channel (rules R6, R72, R81), one constructor per row of `spec/opcode_table.json`. Header fields and
`cmd_data` bits that a command ignores (rules R76, R85) are no operands and do not appear. -/

namespace Sys2Proof

/-- The address operand of SCRAMBLE_IP, by version tag (rules R73 format AV, R75): there is no third
version. -/
inductive IpAddr where
  /-- VER = 0: a 4-byte IPv4 address. -/
  | v4 (addr4 : Addr4)
  /-- VER = 1: a 16-byte IPv6 address. -/
  | v6 (addr6 : Block)
  deriving DecidableEq, Repr

/-- An instruction in the sense of rule R6: a command accepted on the CMD channel, or a request the block
sends to its cipher core. -/
inductive Instr where
  /-- CONSTRUCT: the claimed key length and the 256-bit key field (rule R120). -/
  | construct (keylen : BitVec 8) (key : KeyWord)
  /-- SCRAMBLE: the bit count and the 16-byte buffer (rule R140). -/
  | scramble (nbits : BitVec 8) (buffer : Block)
  /-- SCRAMBLE_IPV4: a 4-byte address (rule R170). -/
  | scrambleIpv4 (addr4 : Addr4)
  /-- SCRAMBLE_IPV6: a 16-byte address (rule R175). -/
  | scrambleIpv6 (addr6 : Block)
  /-- SCRAMBLE_IP: an address of either version (rule R177). -/
  | scrambleIp (addr : IpAddr)
  /-- DROP: no operand (rule R131). -/
  | drop
  /-- LOADKEY: the cipher key the block hands to the core (rule R106). -/
  | loadkey (key : Block)
  /-- ENCRYPT: the plaintext block the block hands to the core (rule R107). -/
  | encrypt (block : Block)
  deriving DecidableEq, Repr

/-- The two channels that carry instructions (rule R70). -/
inductive Channel where
  /-- CMD: host to block. -/
  | cmd
  /-- CC request: block to cipher core. -/
  | ccReq
  deriving DecidableEq, Repr

/-- One word of a channel that carries instructions (rule R70). -/
inductive ChannelWord where
  /-- A 288-bit command word, `cmd_hdr` and `cmd_data`. -/
  | cmd (hdr : Header) (data : CmdData)
  /-- A 129-bit cipher-core request word. -/
  | ccReq (word : CcReqWord)
  deriving DecidableEq, Repr

end Sys2Proof
end

