-- ==== Sys2Proof/Machine/Adapters.lean ====
section
/-! DEFINITION. The typed address commands, `43_adapters.md`: the acceptance step of each (rule R56), with
its own buffer, bit count and result form. -/

namespace Sys2Proof.Machine

/-- SCRAMBLE_IPV4 (rules R170, R171). -/
def execScrambleIpv4 (addr4 : Addr4) (s : State) : Host.Outcome State Fault Refusal :=
  .next (acceptScramble (jobV4 addr4) s)

/-- SCRAMBLE_IPV6 (rule R175). -/
def execScrambleIpv6 (addr6 : Block) (s : State) : Host.Outcome State Fault Refusal :=
  .next (acceptScramble (jobV6 addr6) s)

/-- The buffer, bit count and result form that SCRAMBLE_IP selects by version (rule R178). -/
def jobIp : IpAddr → Job
  | .v4 addr4 => jobV4 addr4
  | .v6 addr6 => jobV6 addr6

/-- SCRAMBLE_IP (rules R177, R178). -/
def execScrambleIp (addr : IpAddr) (s : State) : Host.Outcome State Fault Refusal :=
  .next (acceptScramble (jobIp addr) s)

end Sys2Proof.Machine
end

