-- ==== Sys2Proof/Machine/BlockEncrypter.lean ====
section
/-! DEFINITION. The two requests of the block to its cipher core, `40_block_encrypter.md`: each is the CC
request handshake at which the core takes the request (rules R104, R106, R107). -/

namespace Sys2Proof.Machine

/-- LOADKEY (rules R106, R124): CK and CK_VALID by KEY_OK, the answer pending, the block in KEY_WAIT. -/
def execLoadkey (key : Block) (s : State) : Host.Outcome State Fault Refusal := .next (takeLoadkey key s)

/-- ENCRYPT (rules R107, R124, R149): the answer pending, the block in PAD_WAIT or RND_WAIT. -/
def execEncrypt (block : Block) (s : State) : Host.Outcome State Fault Refusal := .next (takeEncrypt block s)

end Sys2Proof.Machine
end

