-- ==== Sys2Proof/Machine/Construct.lean ====
section
/-! DEFINITION. The key setup commands CONSTRUCT and DROP, `41_construct.md`: the acceptance step of each
(rule R56). What follows a CONSTRUCT are the requests LOADKEY and ENCRYPT and the answers of rules R125 and
R126. -/

namespace Sys2Proof.Machine

/-- CONSTRUCT (rules R120, R122, R123). -/
def execConstruct (keylen : BitVec 8) (key : KeyWord) (s : State) : Host.Outcome State Fault Refusal :=
  .next (acceptConstruct keylen key s)

/-- DROP (rules R131, R132). -/
def execDrop (s : State) : Host.Outcome State Fault Refusal := .next (acceptDrop s)

end Sys2Proof.Machine
end

