-- ==== Sys2Proof/Machine/Scramble.lean ====
section
/-! DEFINITION. The command SCRAMBLE, `42_scramble.md`: its acceptance step (rule R56). What follows are the
rounds, requests ENCRYPT and the answers of rules R150 and R151. -/

namespace Sys2Proof.Machine

/-- SCRAMBLE (rules R140, R142, R144 to R147). -/
def execScramble (nbits : BitVec 8) (buffer : Block) (s : State) : Host.Outcome State Fault Refusal :=
  .next (acceptScramble (jobRaw nbits buffer) s)

end Sys2Proof.Machine
end

