-- ==== Sys2Proof/Machine/Dispatch.lean ====
section
/-! DEFINITION. One arm per instruction. -/

namespace Sys2Proof.Machine

def exec (i : Instr) (s : State) : Host.Outcome State Fault Refusal :=
  match i with
  | .construct keylen key => Sys2Proof.Machine.execConstruct keylen key s
  | .scramble nbits buffer => Sys2Proof.Machine.execScramble nbits buffer s
  | .scrambleIpv4 addr4 => Sys2Proof.Machine.execScrambleIpv4 addr4 s
  | .scrambleIpv6 addr6 => Sys2Proof.Machine.execScrambleIpv6 addr6 s
  | .scrambleIp addr => Sys2Proof.Machine.execScrambleIp addr s
  | .drop => Sys2Proof.Machine.execDrop s
  | .loadkey key => Sys2Proof.Machine.execLoadkey key s
  | .encrypt block => Sys2Proof.Machine.execEncrypt block s

end Sys2Proof.Machine
end

