-- ==== Sys2Proof/WellFormed.lean ====
section
/-! DEFINITION. Which instructions may travel on which channel (rules R51, R70, R72, R81). Operand widths
are in the types, and operand validity (KEYLEN, NBITS) is no part of well-formedness: rule R83 leaves it to
the command's own acceptance rule. -/

namespace Sys2Proof

/-- The channel an instruction travels on: the six commands come from the host, the two requests go to the
cipher core (rules R72, R81). -/
def Instr.channel : Instr → Channel
  | .construct _ _ => .cmd
  | .scramble _ _ => .cmd
  | .scrambleIpv4 _ => .cmd
  | .scrambleIpv6 _ => .cmd
  | .scrambleIp _ => .cmd
  | .drop => .cmd
  | .loadkey _ => .ccReq
  | .encrypt _ => .ccReq

/-- An instruction is well-formed on a channel when that channel can carry it: no cipher request is a
command, and no command is a cipher request. -/
def Instr.wellFormedOn (c : Channel) (i : Instr) : Bool := i.channel == c

/-- The channel of a word. -/
def ChannelWord.channel : ChannelWord → Channel
  | .cmd _ _ => .cmd
  | .ccReq _ => .ccReq

end Sys2Proof
end

