-- ==== Sys2Proof/Decode.lean ====
section
/-! DEFINITION. Decoding and encoding of the CMD and CC request words (`30_encoding.md`, rules R70 to R76,
R80, R81, R83 to R85; `spec/opcode_table.json`). -/

namespace Sys2Proof

/-- Why a command word is ILLEGAL (rules R83, R84). -/
inductive DecodeError where
  /-- RSV1 (`cmd_hdr[27:25]`) or RSV0 (`cmd_hdr[23:16]`) is not zero. -/
  | reservedBits
  /-- OP is 0x0 or 0x7 to 0xF. -/
  | reservedOp
  deriving DecidableEq, Repr

/-! The header's fields (rule R71). -/

/-- OP, `cmd_hdr[31:28]`. -/
def Header.op (h : Header) : BitVec 4 := h.extractLsb' 28 4
/-- RSV1, `cmd_hdr[27:25]`. -/
def Header.rsv1 (h : Header) : BitVec 3 := h.extractLsb' 25 3
/-- VER, `cmd_hdr[24]`. -/
def Header.ver (h : Header) : Bool := h.getLsbD 24
/-- RSV0, `cmd_hdr[23:16]`. -/
def Header.rsv0 (h : Header) : BitVec 8 := h.extractLsb' 16 8
/-- KEYLEN, `cmd_hdr[15:8]`. -/
def Header.keylen (h : Header) : BitVec 8 := h.extractLsb' 8 8
/-- NBITS, `cmd_hdr[7:0]`. -/
def Header.nbits (h : Header) : BitVec 8 := h.extractLsb' 0 8

/-! The 288-bit command word as one number, the header in its most significant bits (rule R70). -/

/-- `CMD = cmd_hdr ‖ cmd_data`: the header in bits 287:256, the data in bits 255:0. -/
def cmdWord (hdr : Header) (data : CmdData) : CmdWord := hdr ++ data
/-- `cmd_hdr` of a command word, bits 287:256. -/
def CmdWord.hdr (w : CmdWord) : Header := w.extractLsb' 256 32
/-- `cmd_data` of a command word, bits 255:0. -/
def CmdWord.data (w : CmdWord) : CmdData := w.extractLsb' 0 256

/-! The operand of each format (rule R73). -/

/-- Formats B, A6 and AV with VER = 1: `cmd_data[127:0]`. -/
def CmdData.low128 (d : CmdData) : Block := d.extractLsb' 0 128
/-- Formats A4 and AV with VER = 0: `cmd_data[31:0]`. -/
def CmdData.low32 (d : CmdData) : Addr4 := d.extractLsb' 0 32

/-- Decoding of a command word is total (rule R83): reserved bits first, then the opcode; operand validity
is not part of it. -/
def decodeCmd (hdr : Header) (data : CmdData) : Except DecodeError Instr :=
  if Header.rsv1 hdr ≠ 0#3 ∨ Header.rsv0 hdr ≠ 0#8 then .error .reservedBits
  else match (Header.op hdr).toNat with
    | 1 => .ok (.construct (Header.keylen hdr) data)
    | 2 => .ok (.scramble (Header.nbits hdr) (CmdData.low128 data))
    | 3 => .ok (.scrambleIpv4 (CmdData.low32 data))
    | 4 => .ok (.scrambleIpv6 (CmdData.low128 data))
    | 5 => .ok (.scrambleIp (if Header.ver hdr then .v6 (CmdData.low128 data) else .v4 (CmdData.low32 data)))
    | 6 => .ok .drop
    | _ => .error .reservedOp

/-- Decoding of a command word given as one 288-bit number (rules R70, R83). -/
def decodeCmdWord (w : CmdWord) : Except DecodeError Instr := decodeCmd (CmdWord.hdr w) (CmdWord.data w)

/-- Decoding of a cipher-core request: `cc_req_kind`, bit 128, is 0 for LOADKEY and 1 for ENCRYPT; there is
no reserved kind (rules R70, R81). -/
def decodeCcReq (w : CcReqWord) : Instr :=
  if w.getLsbD 128 then .encrypt (w.extractLsb' 0 128) else .loadkey (w.extractLsb' 0 128)

/-- Decoding of any word of a channel that carries instructions. -/
def decode : ChannelWord → Except DecodeError Instr
  | .cmd hdr data => decodeCmd hdr data
  | .ccReq w => .ok (decodeCcReq w)

/-- A command header with zeros in RSV1 and RSV0 (rule R71). -/
def encodeHeader (op : BitVec 4) (ver : Bool) (keylen nbits : BitVec 8) : Header :=
  op ++ 0#3 ++ BitVec.ofBool ver ++ 0#8 ++ keylen ++ nbits

/-- A 129-bit CCREQ word, `cc_req_kind ‖ cc_req_data` (rules R70, R81). -/
def encodeCcReq (kind : Bool) (data : Block) : CcReqWord := BitVec.ofBool kind ++ data

/-- The word of an instruction, with zeros in ignored fields and ignored data bits, as the textual form
has it (rules R72, R73, R81, R88). -/
def encode : Instr → ChannelWord
  | .construct keylen key => .cmd (encodeHeader 0x1#4 false keylen 0#8) key
  | .scramble nbits buffer => .cmd (encodeHeader 0x2#4 false 0#8 nbits) (0#128 ++ buffer)
  | .scrambleIpv4 addr4 => .cmd (encodeHeader 0x3#4 false 0#8 0#8) (0#224 ++ addr4)
  | .scrambleIpv6 addr6 => .cmd (encodeHeader 0x4#4 false 0#8 0#8) (0#128 ++ addr6)
  | .scrambleIp (.v4 addr4) => .cmd (encodeHeader 0x5#4 false 0#8 0#8) (0#224 ++ addr4)
  | .scrambleIp (.v6 addr6) => .cmd (encodeHeader 0x5#4 true 0#8 0#8) (0#128 ++ addr6)
  | .drop => .cmd (encodeHeader 0x6#4 false 0#8 0#8) 0#256
  | .loadkey key => .ccReq (encodeCcReq false key)
  | .encrypt block => .ccReq (encodeCcReq true block)

/-- The part of a header that selects the command: OP, RSV1 and RSV0 (rule R72). -/
def headerMask : Header := 0xFEFF0000#32

/-- The match value of each command header, and of each cipher request word, in `spec/opcode_table.json`
(rules R72, R81): the masked word. -/
def Instr.tableMatch : Instr → Nat
  | .construct _ _ => 0x10000000
  | .scramble _ _ => 0x20000000
  | .scrambleIpv4 _ => 0x30000000
  | .scrambleIpv6 _ => 0x40000000
  | .scrambleIp _ => 0x50000000
  | .drop => 0x60000000
  | .loadkey _ => 0
  | .encrypt _ => 0x100000000000000000000000000000000

/-- A word under its channel's table mask: `0xFEFF0000` over the header of a command, bit 128 of a cipher
request (`spec/opcode_table.json`). -/
def ChannelWord.masked : ChannelWord → Nat
  | .cmd hdr _ => (hdr &&& headerMask).toNat
  | .ccReq w => (w &&& 0x100000000000000000000000000000000#129).toNat

/-- The channel word whose bits are `w`, numbered as `spec/opcode_table.json` numbers them, where the table
gives the row `nbits` bits in whole bytes. A row of 129 bits (136 in whole bytes) is a cipher-core request,
`cc_req_kind` at bit 128; no such word has a bit above 128. The rows of the commands have 32 bits, those of
`cmd_hdr`; the table gives `cmd_data` none, so it is zeros there. A whole command word of 288 bits is the number
`cmd_hdr ‖ cmd_data` (rule R70). There is no word of another length. -/
def tableWord (nbits w : Nat) : Option ChannelWord :=
  if nbits = 129 ∨ nbits = 136 then
    if w < 2 ^ 129 then some (.ccReq (BitVec.ofNat 129 w)) else none
  else if nbits = 288 then
    if w / 2 ^ 256 < 2 ^ 32 then some (.cmd (BitVec.ofNat 32 (w / 2 ^ 256)) (BitVec.ofNat 256 w)) else none
  else if nbits = 32 then some (.cmd (BitVec.ofNat 32 w) 0#256)
  else none

/-- The instruction the decoder reads from the bits of an opcode-table row; none where it refuses. -/
def decodeTableWord (nbits w : Nat) : Option Instr :=
  match tableWord nbits w with
  | none => none
  | some cw =>
    match decode cw with
    | .ok i => some i
    | .error _ => none

end Sys2Proof
end

