-- ==== Sys2Proof/Machine/Ports.lean ====
section
/-! DEFINITION. The block's outputs as functions of its registers alone (rules R51, R58, R105), the core's
outputs (rule R104), and the handshake of each channel (rule R59). -/

namespace Sys2Proof.Machine

/-- `cmd_ready = (PHASE == IDLE)`. -/
def cmdReady (s : State) : Bool := s.phase == .idle

/-- `rsp_valid = (PHASE == RESP)`. -/
def rspValid (s : State) : Bool := s.phase == .resp

/-- `rsp_status = STAT`. -/
def rspStatus (s : State) : BitVec 4 := s.stat.code

/-- `rsp_data = RES`. -/
def rspData (s : State) : Block := s.res

/-- The word on the RSP channel, `rsp_status ‖ rsp_data` (rule R70). -/
def rspWord (s : State) : RspWord := rspStatus s ++ rspData s

/-- `cc_req_valid`: a `_REQ` phase. -/
def ccReqValid (s : State) : Bool := s.phase == .keyReq || s.phase == .padReq || s.phase == .rndReq

/-- `cc_rsp_ready`: a `_WAIT` phase. -/
def ccRspReady (s : State) : Bool := s.phase == .keyWait || s.phase == .padWait || s.phase == .rndWait

/-- `cc_req_kind`: 0 for LOADKEY, 1 for ENCRYPT, 0 when nothing is offered (rule R105). -/
def ccReqKind (s : State) : Bool := s.phase == .padReq || s.phase == .rndReq

/-- `cc_req_data`, by phase (rule R105). -/
def ccReqData (s : State) : Block :=
  match s.phase with
  | .keyReq => cipherKey s.kreg
  | .padReq => paddingSeed s.kreg
  | .rndReq => padded s.buf s.pad s.i.toNat
  | _ => 0#128

/-- The word on the CC request channel, `cc_req_kind ‖ cc_req_data` (rule R70). -/
def ccReqWord (s : State) : CcReqWord := encodeCcReq (ccReqKind s) (ccReqData s)

/-- `cc_req_ready`, driven by the core, which answers one request at a time (`00_scope.md` rule R16;
assumption log 6). -/
def ccReqReady (s : State) : Bool := s.pins.ccReqReady && s.answer.isNone

/-- `cc_rsp_valid`, driven by the core, which offers no response for which it has taken no request
(rule R104). -/
def ccRspValid (s : State) : Bool := s.pins.ccRspValid && s.answer.isSome

/-! A handshake happens at an edge with `rst = 0` where both the channel's `valid` and its `ready` are 1
(rules R59, R221). -/

/-- The CMD handshake: a command is accepted at this edge (rule R56). -/
def cmdTaken (s : State) : Bool := !s.pins.rst && (cmdReady s && s.pins.cmdValid)

/-- The CC request handshake (rule R104). -/
def reqTaken (s : State) : Bool := !s.pins.rst && (ccReqValid s && ccReqReady s)

/-- The CC response handshake (rule R104). -/
def ansTaken (s : State) : Bool := !s.pins.rst && (ccRspReady s && ccRspValid s)

/-- The RSP handshake: the response is delivered at this edge (rule R58). -/
def rspTaken (s : State) : Bool := !s.pins.rst && (rspValid s && s.pins.rspReady)

/-- Some channel transfers a word at this edge: the sequencer takes a step (rule R30). -/
def handshake (s : State) : Bool := cmdTaken s || reqTaken s || ansTaken s || rspTaken s

end Sys2Proof.Machine
end

