-- ==== Sys2Proof/Machine/Fetch.lean ====
section
/-! DEFINITION. Where an instruction comes from at a clock edge: the CMD channel in IDLE (rule R56), the
block's own request in a `_REQ` phase (rules R104, R105); and what a step does at an edge with no instruction
(rules R30, R58, R84, R104). -/

namespace Sys2Proof.Machine

/-- What a clock edge with `rst = 0` brings. -/
inductive Fetched where
  /-- A legal command is accepted, or a request is taken by the core. -/
  | instr (i : Instr)
  /-- A word that decodes to ILLEGAL is accepted. -/
  | illegal (e : DecodeError)
  /-- No instruction: an answer or a response is taken, or no handshake happens. -/
  | nothing
  deriving DecidableEq, Repr

/-- The instruction of the coming edge: the command word on the wires at a CMD handshake (rules R56, R66), the
request the block offers at a CC request handshake (rule R104). -/
def fetch (s : State) : Fetched :=
  if cmdTaken s then
    match decodeCmd s.pins.cmdHdr s.pins.cmdData with
    | .ok i => .instr i
    | .error e => .illegal e
  else if reqTaken s then .instr (decodeCcReq (ccReqWord s))
  else .nothing

/-- The step of an edge that brings no instruction: an answer is taken in a `_WAIT` phase, a response is
delivered in RESP, and otherwise no register changes (rules R30, R58, R104). -/
def react (s : State) : State :=
  if ansTaken s then takeAnswer s else if rspTaken s then sendRsp s else s

/-- The passage to the next clock edge after an instruction. -/
def thenAdvance : Host.Outcome State Fault Refusal → Host.Outcome State Fault Refusal
  | .next t => .next (advance t)
  | .fault f => .fault f
  | .refused r => .refused r

/-- `s` with the command word `(hdr, data)` offered at the coming edge and the block ready for it. -/
def offerCmd (hdr : Header) (data : CmdData) (s : State) : State :=
  { s with
    phase := .idle,
    pins := { s.pins with rst := false, cmdValid := true, cmdHdr := hdr, cmdData := data } }

/-- `s` with the block offering the cipher request `w` and the core ready to take it: LOADKEY is what the
block offers in KEY_REQ from `KREG[255:128]`, ENCRYPT in PAD_REQ from `KREG[127:0]` (rule R105). -/
def offerCcReq (w : CcReqWord) (s : State) : State :=
  { s with
    phase := if w.getLsbD 128 then .padReq else .keyReq,
    kreg := if w.getLsbD 128 then cipherKey s.kreg ++ w.extractLsb' 0 128
            else w.extractLsb' 0 128 ++ paddingSeed s.kreg,
    answer := none,
    pins := { s.pins with rst := false, ccReqReady := true } }

/-- `s` with a channel word where the next step fetches its instruction. -/
def offerWord (cw : ChannelWord) (s : State) : State :=
  match cw with
  | .cmd hdr data => offerCmd hdr data s
  | .ccReq w => offerCcReq w s

end Sys2Proof.Machine
end

