-- ==== Sys2Proof/Machine/Step.lean ====
section
/-! DEFINITION. One step: one rising edge of `clk` (rules R30, R59, R220, R221). At most one channel transfers a
word at an edge, so a step with a handshake is a sequencer step in the sense of rule R30. -/

namespace Sys2Proof.Machine

/-- One rising edge of `clk`: reset overrides everything (rule R221); else the instruction of the edge is
executed, an illegal word is answered, an answer or a response is taken, or nothing happens; then the signals
of the next edge come up. -/
def step (s : State) : Host.Outcome State Fault Refusal :=
  if s.pins.rst then .next (advance (resetEdge s))
  else
    match fetch s with
    | .instr i => thenAdvance (exec i s)
    | .illegal _ => .next (advance (acceptIllegal s))
    | .nothing => .next (advance (react s))

/-- `s` with the instruction of an opcode-table row offered at the coming edge, so that the next step executes
it (assumption log 2); `s` itself for a number that is no channel word. -/
def State.withFetchWord (s : State) (nbits w : Nat) : State :=
  match tableWord nbits w with
  | none => s
  | some cw => offerWord cw s

end Sys2Proof.Machine
end

