-- ==== Sys2Proof/Machine/Transaction.lean ====
section
/-! DEFINITION. The transaction level (rule R15): each command as one function of the architectural state, the
command word and the cipher core's choices, to the architectural state, the response and the cipher requests
made (rules R121, R132, R142, R84). It is written from the transaction-level rules, not from the phase-level step;
that the two levels agree (rules R128, R154) is a statement of the model. -/

namespace Sys2Proof.Machine

/-- The architectural state of the block, with the cipher core's key (rules R20, R38, R121). -/
structure Arch where
  /-- PAD. -/
  pad : Block
  /-- KEYED. -/
  keyed : Bool
  /-- CK. -/
  ck : Block
  /-- CK_VALID. -/
  ckValid : Bool
  deriving DecidableEq, Repr

/-- The architectural part of a state. -/
def State.arch (s : State) : Arch := { pad := s.pad, keyed := s.keyed, ck := s.ck, ckValid := s.ckValid }

/-- What a command does at transaction level. -/
structure TxnResult where
  /-- The architectural state after it. -/
  arch : Arch
  /-- Its one response (rule R62). -/
  rsp : Rsp
  /-- The cipher requests it makes, in order (rule R110). -/
  requests : List Instr
  deriving DecidableEq, Repr

/-- CONSTRUCT at transaction level (rule R121); `d j` are the core's choices at its `j`-th request. -/
def txnConstruct (keylen : BitVec 8) (key : KeyWord) (d : Nat → Draw) (a : Arch) : TxnResult :=
  if keylen ≠ 32#8 then
    { arch := a, rsp := { status := .keyInvalidLength, data := keylen.setWidth 128 }, requests := [] }
  else
    let lk := loadkeyReply (cipherKey key) (d 0)
    let ck := loadkeyCk (cipherKey key) (d 0)
    if lk.err then
      { arch := { pad := 0#128, keyed := false, ck := ck, ckValid := false },
        rsp := { status := .keyRejected, data := 0#128 }, requests := [.loadkey (cipherKey key)] }
    else
      let ct := encryptReply true ck (paddingSeed key) (d 1)
      let reqs := [.loadkey (cipherKey key), .encrypt (paddingSeed key)]
      if ct.err then
        { arch := { pad := 0#128, keyed := false, ck := ck, ckValid := true },
          rsp := { status := .encryptionError, data := 0#128 }, requests := reqs }
      else
        { arch := { pad := ct.data, keyed := true, ck := ck, ckValid := true },
          rsp := { status := .ok, data := 0#128 }, requests := reqs }

/-- The loop of rule R142 over the positions `i`, `i + 1`, … for `left` more rounds, from the flip mask `flip`:
the final flip mask, or none at the first failing answer, with the requests made. -/
def txnRounds (buf0 : Block) (d : Nat → Draw) (a : Arch) : Nat → Nat → Block → Option Block × List Instr
  | 0, _, flip => (some flip, [])
  | left + 1, i, flip =>
    let ct := encryptReply a.ckValid a.ck (padded buf0 a.pad i) (d i)
    if ct.err then (none, [.encrypt (padded buf0 a.pad i)])
    else
      let rest := txnRounds buf0 d a left (i + 1) (setFlip flip i (flipBit ct.data))
      (rest.1, .encrypt (padded buf0 a.pad i) :: rest.2)

/-- The SCRAMBLE family at transaction level (rule R142). -/
def txnScramble (j : Job) (d : Nat → Draw) (a : Arch) : TxnResult :=
  if a.keyed = false then { arch := a, rsp := { status := .notKeyed, data := 0#128 }, requests := [] }
  else if 128#8 < j.n then
    { arch := a, rsp := { status := .nbitsRange, data := j.n.setWidth 128 }, requests := [] }
  else
    let loop := txnRounds j.buf0 d a j.n.toNat 0 0#128
    match loop.1 with
    | none => { arch := a, rsp := { status := .encryptionError, data := 0#128 }, requests := loop.2 }
    | some flip =>
      { arch := a, rsp := { status := .ok, data := deliver j.fmt (j.buf0 ^^^ flip) }, requests := loop.2 }

/-- DROP at transaction level (rule R132). -/
def txnDrop (a : Arch) : TxnResult :=
  { arch := { a with pad := 0#128, keyed := false }, rsp := { status := .ok, data := 0#128 }, requests := [] }

/-- An illegal word at transaction level (rule R84). -/
def txnIllegal (a : Arch) : TxnResult :=
  { arch := a, rsp := { status := .illegalCmd, data := 0#128 }, requests := [] }

/-- SCRAMBLE at transaction level: `buf0 = cmd_data[127:0]`, `n = NBITS`, `fmt = 0` (rule R142). -/
def txnScrambleRaw (nbits : BitVec 8) (buffer : Block) (d : Nat → Draw) (a : Arch) : TxnResult :=
  txnScramble { buf0 := buffer, n := nbits, fmt := false } d a

/-- SCRAMBLE_IPV4 at transaction level: `buf0 = addr4 ‖ 0^96`, `n = 32`, `fmt = 1` (rule R170). -/
def txnScrambleIpv4 (addr4 : Addr4) (d : Nat → Draw) (a : Arch) : TxnResult :=
  txnScramble { buf0 := addr4 ++ 0#96, n := 32#8, fmt := true } d a

/-- SCRAMBLE_IPV6 at transaction level: `buf0 = addr6`, `n = 128`, `fmt = 0` (rule R175). -/
def txnScrambleIpv6 (addr6 : Block) (d : Nat → Draw) (a : Arch) : TxnResult :=
  txnScramble { buf0 := addr6, n := 128#8, fmt := false } d a

/-- SCRAMBLE_IP at transaction level: by version, one of the two (rule R177). -/
def txnScrambleIp : IpAddr → (Nat → Draw) → Arch → TxnResult
  | .v4 addr4, d, a => txnScrambleIpv4 addr4 d a
  | .v6 addr6, d, a => txnScrambleIpv6 addr6 d a

/-- A whole command word at transaction level: decoding first (rules R83, R198), then the command. -/
def txnCommand (hdr : Header) (data : CmdData) (d : Nat → Draw) (a : Arch) : TxnResult :=
  match decodeCmd hdr data with
  | .error _ => txnIllegal a
  | .ok (.construct keylen key) => txnConstruct keylen key d a
  | .ok (.scramble nbits buffer) => txnScrambleRaw nbits buffer d a
  | .ok (.scrambleIpv4 addr4) => txnScrambleIpv4 addr4 d a
  | .ok (.scrambleIpv6 addr6) => txnScrambleIpv6 addr6 d a
  | .ok (.scrambleIp addr) => txnScrambleIp addr d a
  | .ok .drop => txnDrop a
  | .ok (.loadkey _) => txnIllegal a
  | .ok (.encrypt _) => txnIllegal a

/-- The block in IDLE with the architectural state `a` and every working register zero (rule R35), no request
pending, and the given signals still to come. -/
def idleWith (a : Arch) (pins : Pins) (env : List Pins) : State :=
  { State.reset with
    pad := a.pad, keyed := a.keyed, ck := a.ck, ckValid := a.ckValid, pins := pins, env := env }

end Sys2Proof.Machine
end

