-- ==== Sys2Proof/Safety.lean ====
section
/-! DEFINITION. The terms claims use: what crosses each channel at an edge and in a run, a cooperating
environment (the fairness of rules R232, R233 in its strongest form), and the invariants of the state (rules R23,
R27, R28, R35, R38). -/

namespace Sys2Proof.Machine

/-! ## Runs and what crosses the channels -/

/-- `k` clock edges from `s`. -/
def run (k : Nat) (s : State) : Host.Outcome State Fault Refusal := Host.Core.run Sys2Proof.core k s

/-- The response delivered to the host at the coming edge, if any (rule R58). -/
def delivered (s : State) : Option Rsp :=
  if rspTaken s then some { status := s.stat, data := s.res } else none

/-- The command word accepted at the coming edge, if any (rule R56). -/
def accepted (s : State) : Option (Header × CmdData) :=
  if cmdTaken s then some (s.pins.cmdHdr, s.pins.cmdData) else none

/-- The cipher request taken by the core at the coming edge, if any (rule R104). -/
def requested (s : State) : Option Instr :=
  if reqTaken s then some (decodeCcReq (ccReqWord s)) else none

/-- The observations `f` makes in `k` clock edges from `s`, in order. -/
def trace {α : Type} (f : State → Option α) : Nat → State → List α
  | 0, _ => []
  | k + 1, s =>
    (f s).toList ++
      match step s with
      | .next t => trace f k t
      | .fault _ => []
      | .refused _ => []

/-- The number of handshakes in `k` clock edges from `s`: the steps rule R238 counts. -/
def handshakes (k : Nat) (s : State) : Nat :=
  (trace (fun s => if handshake s then some () else none) k s).length

/-! ## A cooperating environment -/

/-- At this edge there is no reset, the host takes a response and the core takes a request or answers. -/
def Pins.cooperates (p : Pins) : Bool := !p.rst && p.rspReady && p.ccReqReady && p.ccRspValid

/-- At each of the next `k` edges after the coming one the environment cooperates. -/
def State.cooperates (s : State) (k : Nat) : Bool :=
  decide (k ≤ s.env.length) && (s.env.take k).all Pins.cooperates

/-- The core's choices at the `j`-th cipher request of a command accepted at the coming edge, when the
environment cooperates: the requests are taken at edges 1, 3, 5, … after it. -/
def State.drawAt (s : State) (j : Nat) : Draw := (s.env.getD (2 * j) Pins.quiet).draw

/-- The signals driven at the `j`-th edge from now, the coming one being edge 0. -/
def State.pinsAt (s : State) (j : Nat) : Pins := (s.pins :: s.env).getD j Pins.quiet

/-- The signals that remain after `k` edges. -/
def State.envAfter (s : State) (k : Nat) : List Pins := s.env.drop k

/-- The environment withholds what the phase waits for, and there is no reset: no command in IDLE, no
readiness of the core in a `_REQ` phase, no answer in a `_WAIT` phase, no readiness of the host in RESP
(rules R30, R232, R233). -/
def Pins.withholds (ph : Phase) (p : Pins) : Bool :=
  !p.rst &&
    match ph with
    | .idle => !p.cmdValid
    | .keyReq | .padReq | .rndReq => !p.ccReqReady
    | .keyWait | .padWait | .rndWait => !p.ccRspValid
    | .resp => !p.rspReady

/-! ## The bits a command uses -/

/-- The header bits that matter, by opcode: OP, RSV1 and RSV0 always, KEYLEN for CONSTRUCT, NBITS for SCRAMBLE,
VER for SCRAMBLE_IP (rules R72, R84, R85). -/
def usedHeaderBits (hdr : Header) : Header :=
  match (Header.op hdr).toNat with
  | 1 => 0xFEFFFF00#32
  | 2 => 0xFEFF00FF#32
  | 5 => 0xFFFF0000#32
  | _ => 0xFEFF0000#32

/-- The bits of `cmd_data` that are the operand, by opcode and, for SCRAMBLE_IP, by VER (rules R73, R76). -/
def usedDataBits (hdr : Header) : CmdData :=
  match (Header.op hdr).toNat with
  | 1 => BitVec.allOnes 256
  | 2 => (BitVec.allOnes 128).setWidth 256
  | 3 => (BitVec.allOnes 32).setWidth 256
  | 4 => (BitVec.allOnes 128).setWidth 256
  | 5 => if Header.ver hdr then (BitVec.allOnes 128).setWidth 256 else (BitVec.allOnes 32).setWidth 256
  | _ => 0#256

/-! ## Invariants -/

/-- The working registers that are zero in IDLE and in RESP (rule R35). -/
def workClear (s : State) : Bool :=
  s.buf == 0#128 && s.flip == 0#128 && s.kreg == 0#256 && s.i == 0#8 && s.n == 0#8 && s.fmt == false

/-- STAT and RES are zero (rules R25, R32, R35). -/
def rspClear (s : State) : Bool := s.stat == .ok && s.res == 0#128

/-- The idle invariant (rule R35): in IDLE every working register is zero, in RESP every one but RES and STAT,
and in no other phase do RES and STAT hold anything (rules R25, R32). -/
def idleInv (s : State) : Bool :=
  match s.phase with
  | .idle => workClear s && rspClear s
  | .resp => workClear s
  | _ => rspClear s

/-- In the phases of CONSTRUCT the block is unkeyed and runs no round (rules R26, R33, R123). -/
def constructInv (s : State) : Bool :=
  match s.phase with
  | .keyReq | .keyWait | .padReq | .padWait =>
    !s.keyed && s.buf == 0#128 && s.flip == 0#128 && s.i == 0#8 && s.n == 0#8 && s.fmt == false
  | _ => true

/-- During the rounds `0 <= I <= N - 1 <= 127`, KREG is zero, the block is keyed, the positions of FLIP from I on
are zero, and a 4-byte result belongs to 32 rounds over a buffer with zero low bits (rules R23, R24, R27, R28,
R154, R171). -/
def roundInv (s : State) : Bool :=
  match s.phase with
  | .rndReq | .rndWait =>
    s.keyed && s.kreg == 0#256 && decide (s.i < s.n) && decide (s.n ≤ 128#8)
      && (s.flip &&& ~~~himask s.i.toNat == 0#128)
      && (!s.fmt || (s.n == 32#8 && s.buf.extractLsb' 0 96 == 0#96))
  | _ => true

/-- The core holds a request exactly in the `_WAIT` phases (rules R63, R104). -/
def pendingInv (s : State) : Bool := s.answer.isSome == ccRspReady s

/-- PAD is zero in an unkeyed block, and a keyed one has a valid cipher key in the core (rules R35, R38). -/
def keyedInv (s : State) : Bool := (s.keyed || s.pad == 0#128) && (!s.keyed || s.ckValid)

/-- The decidable part of the invariant of reachable states. -/
def shapeInv (s : State) : Bool :=
  idleInv s && constructInv s && roundInv s && pendingInv s && keyedInv s

/-- During a CONSTRUCT the core holds, or is about to answer for, the staged cipher key (rules R106, R125):
after a LOADKEY answered without error CK_VALID = 1 and CK is the staged key. -/
def stagedKeyInv (s : State) : Prop :=
  match s.phase with
  | .keyWait => ∀ a, s.answer = some a → a.err = false → s.ckValid = true ∧ s.ck = cipherKey s.kreg
  | .padReq | .padWait => s.ckValid = true ∧ s.ck = cipherKey s.kreg
  | _ => True

/-- A successful answer that is pending to an ENCRYPT is the ciphertext of the block the phase asked for, under
CK (rules R101, R107). -/
def answerInv (s : State) : Prop :=
  match s.phase with
  | .padWait => ∀ a, s.answer = some a → a.err = false → a.data = Config.E s.ck (paddingSeed s.kreg)
  | .rndWait => ∀ a, s.answer = some a → a.err = false → a.data = Config.E s.ck (padded s.buf s.pad s.i.toNat)
  | _ => True

/-- A keyed block's PAD is a Padding Block under the core's key: the encryption of some padding seed
(rule R38). -/
def paddingInv (s : State) : Prop := s.keyed = true → ∃ seed, s.pad = Config.E s.ck seed

/-- The invariant that every step keeps, from every state that has it. -/
structure Inv (s : State) : Prop where
  /-- The decidable part. -/
  shape : shapeInv s = true
  /-- The staged key. -/
  staged : stagedKeyInv s
  /-- The pending answer. -/
  answer : answerInv s
  /-- The Padding Block. -/
  padding : paddingInv s

/-! ## What the secrets can reach -/

/-- Two states that differ in nothing but PAD, KREG, CK and the 127 bits of a pending ciphertext that every
round discards (rules R37, R153). -/
def sameButSecrets (s t : State) : Prop :=
  s.keyed = t.keyed ∧ s.buf = t.buf ∧ s.flip = t.flip ∧ s.res = t.res ∧ s.i = t.i ∧ s.n = t.n ∧
  s.fmt = t.fmt ∧ s.stat = t.stat ∧ s.phase = t.phase ∧ s.ckValid = t.ckValid ∧ s.pins = t.pins ∧ s.env = t.env ∧
  s.answer.map (fun a => (a.err, flipBit a.data)) = t.answer.map (fun a => (a.err, flipBit a.data))

end Sys2Proof.Machine
end

