-- ==== Sys2Proof/Certificates/Slice0/Obligations.lean ====
section
/-! DEFINITION. The statements for the provers. Each is about the machine, none about a program. A step is one
clock edge; `advance` only brings up the signals of the next edge. The cipher `Config.E` and the key test
`Config.keyOk` are free, and so are the core's draws: every statement holds for all of them. -/

open Sys2Proof Sys2Proof.Machine

/-! ## Encoding -/

/-- Rules R70 to R73, R81: an instruction that is well-formed on a channel encodes to a word of that channel, and
decoding the word gives the instruction back, with every operand at every value. -/
def Obligations.DecodingAnEncodedInstructionGivesItBack : Prop :=
  ∀ (c : Channel) (i : Instr), i.wellFormedOn c = true → (encode i).channel = c ∧ decode (encode i) = .ok i

/-- Words written out from the encodings of rules R71, R72, R75 and R81 decode to what they stand for. -/
def Obligations.WrittenWordsDecode : Prop :=
  decodeCmd 0x10002000#32 7#256 = .ok (.construct 32#8 7#256) ∧
  decodeCmd 0x20000081#32 5#256 = .ok (.scramble 129#8 5#128) ∧
  decodeCmd 0x30000000#32 0x800b4484#256 = .ok (.scrambleIpv4 0x800b4484#32) ∧
  decodeCmd 0x40000000#32 1#256 = .ok (.scrambleIpv6 1#128) ∧
  decodeCmd 0x50000000#32 0xc029392b#256 = .ok (.scrambleIp (.v4 0xc029392b#32)) ∧
  decodeCmd 0x51000000#32 1#256 = .ok (.scrambleIp (.v6 1#128)) ∧
  decodeCmd 0x60000000#32 9#256 = .ok .drop ∧
  decodeCmd 0x20010020#32 0#256 = .error .reservedBits ∧
  decodeCmd 0x00000000#32 0#256 = .error .reservedOp ∧
  decodeCmd 0x70000000#32 0#256 = .error .reservedOp ∧
  decodeCcReq 0x01522178d33a4cf80130a5b1649907d10#129 = .loadkey 0x1522178d33a4cf80130a5b1649907d10#128 ∧
  decodeCcReq 0x1d8988f837979652762574c2d2a842202#129 = .encrypt 0xd8988f837979652762574c2d2a842202#128

/-- Rule R83, in arithmetic on the header's number: reserved bits first, then the opcode, the operands whole and
unchecked. -/
def Obligations.DecodingFollowsTheOpcodeMap : Prop :=
  ∀ (hdr : Header) (data : CmdData),
    if hdr.toNat / 2 ^ 25 % 8 ≠ 0 ∨ hdr.toNat / 2 ^ 16 % 256 ≠ 0 then ∃ e, decodeCmd hdr data = .error e
    else if hdr.toNat / 2 ^ 28 = 1 then
      decodeCmd hdr data = .ok (.construct (BitVec.ofNat 8 (hdr.toNat / 2 ^ 8)) data)
    else if hdr.toNat / 2 ^ 28 = 2 then
      decodeCmd hdr data = .ok (.scramble (BitVec.ofNat 8 hdr.toNat) (BitVec.ofNat 128 data.toNat))
    else if hdr.toNat / 2 ^ 28 = 3 then decodeCmd hdr data = .ok (.scrambleIpv4 (BitVec.ofNat 32 data.toNat))
    else if hdr.toNat / 2 ^ 28 = 4 then decodeCmd hdr data = .ok (.scrambleIpv6 (BitVec.ofNat 128 data.toNat))
    else if hdr.toNat / 2 ^ 28 = 5 then
      if hdr.toNat / 2 ^ 24 % 2 = 0 then
        decodeCmd hdr data = .ok (.scrambleIp (.v4 (BitVec.ofNat 32 data.toNat)))
      else decodeCmd hdr data = .ok (.scrambleIp (.v6 (BitVec.ofNat 128 data.toNat)))
    else if hdr.toNat / 2 ^ 28 = 6 then decodeCmd hdr data = .ok .drop
    else ∃ e, decodeCmd hdr data = .error e

/-- Rule R72: a header selects a command exactly when the header under the mask `0xFEFF0000` is the match value of
that command's row. -/
def Obligations.MaskedHeaderSelectsTheCommand : Prop :=
  ∀ (hdr : Header) (data : CmdData) (i : Instr), i.wellFormedOn .cmd = true →
    ((hdr &&& headerMask).toNat = i.tableMatch ↔
      ∃ j, decodeCmd hdr data = .ok j ∧ j.tableMatch = i.tableMatch)

/-- Rules R76 and R85: two command words that agree on the bits their opcode uses decode alike. -/
def Obligations.IgnoredBitsHaveNoEffectOnDecoding : Prop :=
  ∀ (hdr hdr' : Header) (data data' : CmdData),
    hdr &&& usedHeaderBits hdr = hdr' &&& usedHeaderBits hdr →
    data &&& usedDataBits hdr = data' &&& usedDataBits hdr →
    decodeCmd hdr data = decodeCmd hdr' data'

/-- Rules R72 and R81: no word of the CMD channel decodes to a cipher request and no request word to a command. -/
def Obligations.DecodedInstructionBelongsToItsChannel : Prop :=
  ∀ (w : ChannelWord) (i : Instr), decode w = .ok i → i.wellFormedOn w.channel = true

/-- Rules R8 and R52: the bytes of a 16-byte buffer, of the 32-byte key and of a 4-byte address, byte 0 first,
read with the first byte most significant are the vector that carries them. -/
def Obligations.BytesAreBigEndian : Prop :=
  (∀ v : Block, bigEndian ((List.range 16).map (byte16 v)) = v.toNat) ∧
  (∀ k : KeyWord, bigEndian ((List.range 32).map (byte32 k)) = k.toNat) ∧
  (∀ a : Addr4, bigEndian ((List.range 4).map (byte4 a)) = a.toNat)

/-! ## Steps and ports -/

/-- Rules R56, R104, R105: at an edge without reset, the legal command word on the wires in IDLE, or the request
the phase offers when the core is ready for it, is the instruction the step runs; the step then brings up the
signals of the next edge and changes nothing else. -/
def Obligations.StepRunsTheFetchedInstruction : Prop :=
  (∀ (s : State) (i : Instr), s.pins.rst = false → s.phase = .idle → s.pins.cmdValid = true →
    decodeCmd s.pins.cmdHdr s.pins.cmdData = .ok i →
    ∃ t, exec i s = .next t ∧ step s = .next (advance t)) ∧
  (∀ s : State, s.pins.rst = false → s.pins.ccReqReady = true → s.answer = none →
    (s.phase = .keyReq →
      ∃ t, exec (.loadkey (cipherKey s.kreg)) s = .next t ∧ step s = .next (advance t)) ∧
    (s.phase = .padReq →
      ∃ t, exec (.encrypt (paddingSeed s.kreg)) s = .next t ∧ step s = .next (advance t)) ∧
    (s.phase = .rndReq →
      ∃ t, exec (.encrypt (padded s.buf s.pad s.i.toNat)) s = .next t ∧ step s = .next (advance t))) ∧
  (∀ s : State, advance s = { s with pins := s.env.headD Pins.quiet, env := s.env.tail })

/-- The model's own loading of an opcode-table row (assumption log 2): the instruction the decoder reads from the
row is the one the very next step runs. -/
def Obligations.StepRunsTheRowPlacedForIt : Prop :=
  ∀ (s : State) (nbits w : Nat) (i : Instr), decodeTableWord nbits w = some i →
    ∃ t, exec i (s.withFetchWord nbits w) = .next t ∧ step (s.withFetchWord nbits w) = .next (advance t)

/-- Every clock edge leads to a next state: every error is a response (rules R190, R196), and there is nothing a
step stops on. -/
def Obligations.EveryStepAnswersANextState : Prop :=
  ∀ s : State, ∃ t, step s = .next t

/-- Rule R105: what the block offers the cipher core, by phase. -/
def Obligations.CipherRequestPortsFollowThePhase : Prop :=
  ∀ s : State,
    (s.phase = .keyReq → ccReqValid s = true ∧ (ccReqWord s).toNat = s.kreg.toNat / 2 ^ 128) ∧
    (s.phase = .padReq → ccReqValid s = true ∧ (ccReqWord s).toNat = 2 ^ 128 + s.kreg.toNat % 2 ^ 128) ∧
    (s.phase = .rndReq → ccReqValid s = true ∧
      (ccReqWord s).toNat = 2 ^ 128 + ((s.buf &&& himask s.i.toNat) ||| (s.pad &&& ~~~himask s.i.toNat)).toNat) ∧
    (s.phase ≠ .keyReq → s.phase ≠ .padReq → s.phase ≠ .rndReq → ccReqValid s = false ∧ ccReqWord s = 0#129)

/-- Rules R29, R51, R58, R59, R70: each phase serves exactly one channel, so at most one word crosses at an edge;
`rsp_status`, `rsp_data` are STAT and RES, the response word is `rsp_status` followed by `rsp_data`, and it is the
word of the response delivered. -/
def Obligations.EachPhaseServesOneChannel : Prop :=
  ∀ s : State,
    [cmdReady s, rspValid s, ccReqValid s, ccRspReady s].count true = 1 ∧
    [cmdTaken s, rspTaken s, reqTaken s, ansTaken s].count true ≤ 1 ∧
    rspStatus s = s.stat.code ∧ rspData s = s.res ∧
    (rspWord s).toNat = s.stat.code.toNat * 2 ^ 128 + s.res.toNat ∧
    ∀ r, delivered s = some r → r.word = rspWord s

/-- Rules R30, R232, R233: while the environment withholds what the phase waits for, `k` edges change no register
of the block or of the core, for any `k`: the block waits, and waits for ever if need be. -/
def Obligations.WithheldHandshakeLeavesTheBlockWaiting : Prop :=
  ∀ (k : Nat) (s : State), (∀ j, j < k → (s.pinsAt j).withholds s.phase = true) →
    run k s = .next { s with pins := s.pinsAt k, env := s.envAfter k }

/-- Rules R60, R66, R235: outside IDLE, and in IDLE while `cmd_valid = 0`, what is on the other command wires has no
effect on the step. -/
def Obligations.CommandWiresMatterOnlyAtTheirHandshake : Prop :=
  ∀ (s : State) (hdr : Header) (data : CmdData),
    (s.phase ≠ .idle → ∀ v : Bool,
      step { s with pins := { s.pins with cmdValid := v, cmdHdr := hdr, cmdData := data } } = step s) ∧
    (s.pins.cmdValid = false →
      step { s with pins := { s.pins with cmdHdr := hdr, cmdData := data } } = step s)

/-- Rule R84: a word with a reserved opcode or a non-zero reserved bit is accepted and answered ILLEGAL_CMD with
information 0; KEYED, PAD and the core are kept and no request is made. -/
def Obligations.IllegalWordIsAnsweredAtOnce : Prop :=
  ∀ s : State, s.pins.rst = false → s.phase = .idle → s.pins.cmdValid = true →
    (s.pins.cmdHdr.toNat / 2 ^ 25 % 8 ≠ 0 ∨ s.pins.cmdHdr.toNat / 2 ^ 16 % 256 ≠ 0 ∨
      s.pins.cmdHdr.toNat / 2 ^ 28 = 0 ∨ 7 ≤ s.pins.cmdHdr.toNat / 2 ^ 28) →
    step s = .next (advance
      { s with stat := .illegalCmd, res := 0#128, buf := 0#128, flip := 0#128, kreg := 0#256, i := 0#8,
               n := 0#8, fmt := false, phase := .resp }) ∧
    accepted s = some (s.pins.cmdHdr, s.pins.cmdData) ∧ requested s = none

/-! ## CONSTRUCT and DROP -/

/-- Rule R122: a CONSTRUCT with another length than 32 answers KEY_INVALID_LENGTH with the length, and writes
nothing but what entering RESP writes; the key field is not looked at. -/
def Obligations.ConstructWithWrongLengthIsRejected : Prop :=
  ∀ (s : State) (keylen : BitVec 8) (key : KeyWord), keylen ≠ 32#8 →
    exec (.construct keylen key) s = .next
      { s with stat := .keyInvalidLength, res := BitVec.ofNat 128 keylen.toNat, buf := 0#128, flip := 0#128,
               kreg := 0#256, i := 0#8, n := 0#8, fmt := false, phase := .resp }

/-- Rule R123: a CONSTRUCT of length 32 unkeys the block, clears PAD, stages the key and goes to KEY_REQ. -/
def Obligations.ConstructWithRightLengthStagesTheKey : Prop :=
  ∀ (s : State) (key : KeyWord),
    exec (.construct 32#8 key) s = .next
      { s with keyed := false, pad := 0#128, kreg := key, phase := .keyReq }

/-- Rules R131, R132: DROP clears KEYED and PAD and answers OK, keyed or not; the core's key is not changed. -/
def Obligations.DropClearsTheScrambler : Prop :=
  ∀ s : State,
    exec .drop s = .next
      { s with keyed := false, pad := 0#128, stat := .ok, res := 0#128, buf := 0#128, flip := 0#128,
               kreg := 0#256, i := 0#8, n := 0#8, fmt := false, phase := .resp }

/-- Rule R124 and R149: the core's taking of the offered request moves the block to the `_WAIT` phase and writes no
other register of the block; LOADKEY may change the core's key, ENCRYPT does not. -/
def Obligations.TakenRequestMovesTheBlockToWait : Prop :=
  ∀ s : State, s.pins.rst = false → s.pins.ccReqReady = true → s.answer = none →
    (s.phase = .keyReq →
      requested s = some (.loadkey (cipherKey s.kreg)) ∧
      ∃ c v a, step s = .next (advance { s with phase := .keyWait, ck := c, ckValid := v, answer := some a })) ∧
    (s.phase = .padReq →
      requested s = some (.encrypt (paddingSeed s.kreg)) ∧
      ∃ a, step s = .next (advance { s with phase := .padWait, answer := some a })) ∧
    (s.phase = .rndReq →
      requested s = some (.encrypt (padded s.buf s.pad s.i.toNat)) ∧
      ∃ a, step s = .next (advance { s with phase := .rndWait, answer := some a }))

/-- Rule R125: the LOADKEY answer ends the command with KEY_REJECTED or asks for the Padding Block; its data is
ignored. In a state that meets the invariant the block is unkeyed with PAD = 0 meanwhile. -/
def Obligations.LoadkeyAnswerRejectsOrGoesOn : Prop :=
  ∀ (s : State) (a : CcRsp), s.pins.rst = false → s.phase = .keyWait → s.answer = some a →
    s.pins.ccRspValid = true →
    step s = .next (advance
      (if a.err then
        { s with answer := none, stat := .keyRejected, res := 0#128, buf := 0#128, flip := 0#128,
                 kreg := 0#256, i := 0#8, n := 0#8, fmt := false, phase := .resp }
      else { s with answer := none, phase := .padReq })) ∧
    (Inv s → s.keyed = false ∧ s.pad = 0#128)

/-- Rule R126: the answer to the seed ENCRYPT ends the command, with ENCRYPTION_ERROR and the block as it was, or
with PAD and KEYED written. In a state that meets the invariant the block is unkeyed with PAD = 0 and the core's
CK_VALID = 1 until then, and a successful answer is `E(cipher_key, padding_seed)` of the staged key. -/
def Obligations.SeedAnswerKeysTheBlock : Prop :=
  ∀ (s : State) (a : CcRsp), s.pins.rst = false → s.phase = .padWait → s.answer = some a →
    s.pins.ccRspValid = true →
    step s = .next (advance
      (if a.err then
        { s with answer := none, stat := .encryptionError, res := 0#128, buf := 0#128, flip := 0#128,
                 kreg := 0#256, i := 0#8, n := 0#8, fmt := false, phase := .resp }
      else
        { s with answer := none, pad := a.data, keyed := true, stat := .ok, res := 0#128, buf := 0#128,
                 flip := 0#128, kreg := 0#256, i := 0#8, n := 0#8, fmt := false, phase := .resp })) ∧
    (Inv s → s.keyed = false ∧ s.pad = 0#128 ∧ s.ckValid = true ∧
      (a.err = false → a.data = Config.E (cipherKey s.kreg) (paddingSeed s.kreg)))

/-- Rules R121, R129, R238: from IDLE with a cooperating environment, a CONSTRUCT of length 32 is back in IDLE
after 4 edges if the core rejects the cipher key, with KEY_REJECTED delivered and the block unkeyed; else after 6
edges, with ENCRYPTION_ERROR and the block unkeyed if the core draws a failure for the seed, and else with OK, PAD =
`E(cipher_key, padding_seed)`, KEYED = 1 and the cipher key in the core. -/
def Obligations.ConstructRunsToItsResponse : Prop :=
  ∀ (s : State) (key : KeyWord), s.pins.rst = false → s.phase = .idle → s.answer = none →
    s.pins.cmdValid = true → decodeCmd s.pins.cmdHdr s.pins.cmdData = .ok (.construct 32#8 key) →
    s.cooperates 5 = true →
    if Config.keyOk (cipherKey key) = false then
      (∃ ck, run 4 s = .next
        (idleWith { pad := 0#128, keyed := false, ck := ck, ckValid := false } (s.pinsAt 4) (s.envAfter 4))) ∧
      trace delivered 4 s = [{ status := .keyRejected, data := 0#128 }] ∧
      trace requested 4 s = [.loadkey (cipherKey key)]
    else
      trace requested 6 s = [.loadkey (cipherKey key), .encrypt (paddingSeed key)] ∧
      (if (s.drawAt 1).err then
        run 6 s = .next
          (idleWith { pad := 0#128, keyed := false, ck := cipherKey key, ckValid := true } (s.pinsAt 6)
            (s.envAfter 6)) ∧
        trace delivered 6 s = [{ status := .encryptionError, data := 0#128 }]
      else
        run 6 s = .next
          (idleWith { pad := Config.E (cipherKey key) (paddingSeed key), keyed := true, ck := cipherKey key,
                      ckValid := true } (s.pinsAt 6) (s.envAfter 6)) ∧
        trace delivered 6 s = [{ status := .ok, data := 0#128 }])

/-! ## The scramble commands: acceptance -/

/-- Rule R144: on an unkeyed block each of the four scramble commands answers NOT_KEYED with information 0,
whatever its operand, and writes nothing but what entering RESP writes. -/
def Obligations.ScrambleOnUnkeyedBlockIsNotKeyed : Prop :=
  ∀ (s : State) (i : Instr), s.keyed = false →
    ((∃ nbits buffer, i = .scramble nbits buffer) ∨ (∃ a, i = .scrambleIpv4 a) ∨ (∃ b, i = .scrambleIpv6 b) ∨
      (∃ ip, i = .scrambleIp ip)) →
    exec i s = .next
      { s with stat := .notKeyed, res := 0#128, buf := 0#128, flip := 0#128, kreg := 0#256, i := 0#8,
               n := 0#8, fmt := false, phase := .resp }

/-- Rule R145: on a keyed block SCRAMBLE with NBITS from 129 to 255 answers NBITS_RANGE with NBITS; the typed
commands start their rounds whatever their operand. -/
def Obligations.BitCountAbove128IsRejected : Prop :=
  ∀ s : State, s.keyed = true →
    (∀ (nbits : BitVec 8) (buffer : Block), 128 < nbits.toNat →
      exec (.scramble nbits buffer) s = .next
        { s with stat := .nbitsRange, res := BitVec.ofNat 128 nbits.toNat, buf := 0#128, flip := 0#128,
                 kreg := 0#256, i := 0#8, n := 0#8, fmt := false, phase := .resp }) ∧
    (∀ i : Instr, (∃ a, i = .scrambleIpv4 a) ∨ (∃ b, i = .scrambleIpv6 b) ∨ (∃ ip, i = .scrambleIp ip) →
      ∃ t, exec i s = .next t ∧ t.phase = .rndReq)

/-- Rule R147: on a keyed block SCRAMBLE with NBITS = 0 answers OK with the buffer at once; no request is made. -/
def Obligations.ZeroBitScrambleReturnsItsInput : Prop :=
  ∀ (s : State) (buffer : Block), s.keyed = true →
    exec (.scramble 0#8 buffer) s = .next
      { s with stat := .ok, res := buffer, buf := 0#128, flip := 0#128, kreg := 0#256, i := 0#8,
               n := 0#8, fmt := false, phase := .resp }

/-- Rule R146, SCRAMBLE: with NBITS from 1 to 128 on a keyed block the rounds start over the buffer as given. -/
def Obligations.ScrambleStartsItsRounds : Prop :=
  ∀ (s : State) (nbits : BitVec 8) (buffer : Block), s.keyed = true → 1 ≤ nbits.toNat → nbits.toNat ≤ 128 →
    exec (.scramble nbits buffer) s = .next
      { s with buf := buffer, n := nbits, i := 0#8, flip := 0#128, fmt := false, phase := .rndReq }

/-- Rules R170, R171: SCRAMBLE_IPV4 on a keyed block embeds the address in the most significant 32 bits of BUF over
96 zero bits and starts 32 rounds with a 4-byte result. -/
def Obligations.ScrambleIpv4EmbedsAndStarts : Prop :=
  ∀ (s : State) (addr4 : Addr4), s.keyed = true →
    exec (.scrambleIpv4 addr4) s = .next
      { s with buf := BitVec.ofNat 128 (addr4.toNat * 2 ^ 96), n := 32#8, i := 0#8, flip := 0#128, fmt := true,
               phase := .rndReq }

/-- Rule R175: SCRAMBLE_IPV6 on a keyed block starts 128 rounds over the address itself, and is in every state
what SCRAMBLE with NBITS = 128 is. -/
def Obligations.ScrambleIpv6StartsItsRounds : Prop :=
  ∀ (s : State) (addr6 : Block),
    (s.keyed = true →
      exec (.scrambleIpv6 addr6) s = .next
        { s with buf := addr6, n := 128#8, i := 0#8, flip := 0#128, fmt := false, phase := .rndReq }) ∧
    exec (.scrambleIpv6 addr6) s = exec (.scramble 128#8 addr6) s

/-- Rules R177, R178: SCRAMBLE_IP does in every state what the command of its version does, and on a keyed block
starts 32 rounds over the embedded address or 128 rounds over the address itself. -/
def Obligations.ScrambleIpDispatchesOnTheVersion : Prop :=
  ∀ (s : State) (addr4 : Addr4) (addr6 : Block),
    exec (.scrambleIp (.v4 addr4)) s = exec (.scrambleIpv4 addr4) s ∧
    exec (.scrambleIp (.v6 addr6)) s = exec (.scrambleIpv6 addr6) s ∧
    (s.keyed = true →
      exec (.scrambleIp (.v4 addr4)) s = .next
        { s with buf := BitVec.ofNat 128 (addr4.toNat * 2 ^ 96), n := 32#8, i := 0#8, flip := 0#128, fmt := true,
                 phase := .rndReq } ∧
      exec (.scrambleIp (.v6 addr6)) s = .next
        { s with buf := addr6, n := 128#8, i := 0#8, flip := 0#128, fmt := false, phase := .rndReq })

/-! ## The cipher requests and the rounds -/

/-- Rule R106: the core takes LOADKEY in every state. An accepted key becomes CK with CK_VALID = 1 and an answer
without error; a rejected one clears CK_VALID and answers an error. No register of the block but PHASE changes. Its
word is kind 0 over the key. What CK holds after a rejected key is left open (assumption log 4). -/
def Obligations.LoadkeySetsTheCoresKey : Prop :=
  ∀ (s : State) (k : Block),
    decodeCcReq (BitVec.ofBool false ++ k) = .loadkey k ∧
    ∃ ck data,
      exec (.loadkey k) s = .next
        { s with ck := ck, ckValid := Config.keyOk k,
                 answer := some { err := !Config.keyOk k, data := data }, phase := s.phase.afterRequest } ∧
      (Config.keyOk k = true → ck = k)

/-- Rule R107: the core takes ENCRYPT in every state. Without a valid key it answers an error, which is the model's
resolution (assumption log 5: R107's first line followed, where U8 refuses the case and lets a core answer anything);
with one it answers
`E(CK, b)` or, where it draws a failure, an error. None of its own state changes, and no register of the block but
PHASE. Its word is kind 1 over the block. -/
def Obligations.EncryptAnswersTheCiphertextOrFails : Prop :=
  ∀ (s : State) (b : Block),
    decodeCcReq (BitVec.ofBool true ++ b) = .encrypt b ∧
    ∃ a : CcRsp,
      exec (.encrypt b) s = .next { s with answer := some a, phase := s.phase.afterRequest } ∧
      (s.ckValid = false → a.err = true) ∧
      (s.ckValid = true → s.pins.draw.err = false → a = { err := false, data := Config.E s.ck b }) ∧
      (s.ckValid = true → s.pins.draw.err = true → a.err = true)

/-- Rule R150: a successful answer in round I puts the ciphertext's bit 127 at position I of FLIP; before the last
round the next one starts, and after it the command ends with OK and `BUF ^ FLIP`, whole or as a 4-byte
address. -/
def Obligations.SuccessfulRoundAccumulatesItsFlipBit : Prop :=
  ∀ (s : State) (a : CcRsp), s.pins.rst = false → s.phase = .rndWait → s.answer = some a →
    s.pins.ccRspValid = true → a.err = false → s.i.toNat < s.n.toNat →
    let flip' := s.flip ||| ((BitVec.ofBool (a.data.getLsbD 127)).setWidth 128 <<< (127 - s.i.toNat))
    let r := s.buf ^^^ flip'
    step s = .next (advance
      (if s.i.toNat + 1 < s.n.toNat then
        { s with answer := none, flip := flip', i := BitVec.ofNat 8 (s.i.toNat + 1), phase := .rndReq }
      else
        { s with answer := none, stat := .ok, res := if s.fmt then BitVec.ofNat 128 (r.toNat / 2 ^ 96) else r,
                 buf := 0#128, flip := 0#128, kreg := 0#256, i := 0#8, n := 0#8, fmt := false, phase := .resp }))

/-- Rule R151: a failing answer in a round ends the command with ENCRYPTION_ERROR and information 0; KEYED and PAD
are kept, the flip bits are discarded. -/
def Obligations.FailingRoundDeliversNothing : Prop :=
  ∀ (s : State) (a : CcRsp), s.pins.rst = false → s.phase = .rndWait → s.answer = some a →
    s.pins.ccRspValid = true → a.err = true →
    step s = .next (advance
      { s with answer := none, stat := .encryptionError, res := 0#128, buf := 0#128, flip := 0#128,
               kreg := 0#256, i := 0#8, n := 0#8, fmt := false, phase := .resp })

/-- Rules R58, R197: in RESP a ready host takes STAT and RES as the response word and the block returns to IDLE,
after an error as after OK; while the host is not ready nothing changes and nothing is delivered. -/
def Obligations.ResponseIsDeliveredAndTheBlockIdles : Prop :=
  ∀ s : State, s.pins.rst = false → s.phase = .resp →
    (s.pins.rspReady = true →
      delivered s = some { status := s.stat, data := s.res } ∧
      step s = .next (advance { s with stat := .ok, res := 0#128, phase := .idle })) ∧
    (s.pins.rspReady = false → delivered s = none ∧ step s = .next (advance s))

/-! ## Reset -/

/-- Rules R220, R221: at an edge with `rst = 1` no channel transfers a word, and every register of the block and
CK_VALID take their reset value whatever the phase would have written; a pending request is forgotten, and
`cmd_ready` reads 1 afterwards. CK is unspecified, and no statement is made of it. -/
def Obligations.ResetEdgeOverridesEverything : Prop :=
  ∀ s : State, s.pins.rst = true →
    handshake s = false ∧
    (∃ c, step s = .next (advance
      { pad := 0#128, keyed := false, buf := 0#128, flip := 0#128, kreg := 0#256, res := 0#128, i := 0#8, n := 0#8,
        fmt := false, stat := .ok, phase := .idle, ck := c, ckValid := false, answer := none, pins := s.pins,
        env := s.env })) ∧
    ∀ t, step s = .next t → cmdReady t = true

/-- Rule R40: every register of the block is zero after reset, PHASE = IDLE = 0, and CK_VALID = 0. -/
def Obligations.ResetStateIsAllZero : Prop :=
  State.reset.pad = 0#128 ∧ State.reset.keyed = false ∧ State.reset.buf = 0#128 ∧ State.reset.flip = 0#128 ∧
  State.reset.res = 0#128 ∧ State.reset.kreg = 0#256 ∧ State.reset.i = 0#8 ∧ State.reset.n = 0#8 ∧
  State.reset.fmt = false ∧ State.reset.stat.code = 0#4 ∧ State.reset.phase = .idle ∧
  State.reset.phase.code = 0#3 ∧ State.reset.ckValid = false ∧ State.reset.answer = none

/-! ## Invariants and rules about the whole machine -/

/-- The reset state meets the invariant. -/
def Obligations.ResetMeetsTheInvariant : Prop := Inv State.reset

/-- Every step, from every state that meets the invariant and whatever the environment drives, keeps it: the idle
invariant (rule R35), the round bounds and the zero positions of FLIP (rules R23, R27, R28, R154), one request
outstanding exactly in the `_WAIT` phases (rule R63), and a keyed block's PAD a Padding Block under the core's
valid key (rule R38). -/
def Obligations.EveryStepKeepsTheInvariant : Prop :=
  ∀ s t : State, Inv s → step s = .next t → Inv t

/-- Rule R35, in states that meet the invariant: in IDLE the whole state of the block is KEYED and PAD, and PAD is
zero when KEYED is; in RESP every working register but RES and STAT is zero. -/
def Obligations.IdleBlockHoldsOnlyPadAndKeyed : Prop :=
  ∀ s : State, Inv s →
    (s.phase = .idle → s = idleWith s.arch s.pins s.env ∧ (s.keyed = false → s.pad = 0#128)) ∧
    (s.phase = .resp →
      s.buf = 0#128 ∧ s.flip = 0#128 ∧ s.kreg = 0#256 ∧ s.i = 0#8 ∧ s.n = 0#8 ∧ s.fmt = false)

/-- Rules R21, R33, R127: KEYED is set exactly by the last step of a successful CONSTRUCT, and cleared exactly by
reset, DROP and the acceptance of a CONSTRUCT of length 32; PAD changes at no other step; CK and CK_VALID change only
at reset and where the core takes the LOADKEY of KEY_REQ. -/
def Obligations.OnlyConstructDropAndResetTouchTheKey : Prop :=
  ∀ s t : State, step s = .next t →
    let clears := s.pins.rst = true ∨ (cmdTaken s = true ∧
      (decodeCmd s.pins.cmdHdr s.pins.cmdData = .ok .drop ∨
        ∃ key, decodeCmd s.pins.cmdHdr s.pins.cmdData = .ok (.construct 32#8 key)))
    let sets := s.phase = .padWait ∧ ansTaken s = true ∧ ∃ d, s.answer = some { err := false, data := d }
    (clears → t.keyed = false ∧ t.pad = 0#128) ∧
    (sets → t.keyed = true ∧ s.answer = some { err := false, data := t.pad }) ∧
    (¬ clears → ¬ sets → t.keyed = s.keyed ∧ t.pad = s.pad) ∧
    (s.pins.rst = false → ¬ (s.phase = .keyReq ∧ reqTaken s = true) → t.ck = s.ck ∧ t.ckValid = s.ckValid)

/-- Rule R36: after the acceptance of a scramble command, of an illegal word or of a CONSTRUCT of another length, and
whatever the environment does short of a reset, PAD, KEYED, CK and CK_VALID are as they were at every edge until
another command is accepted; and when the block is back in IDLE its whole state is. -/
def Obligations.ScramblingLeavesNoTrace : Prop :=
  ∀ (k : Nat) (s t : State), Inv s → cmdTaken s = true →
    (∀ key, decodeCmd s.pins.cmdHdr s.pins.cmdData ≠ .ok (.construct 32#8 key)) →
    decodeCmd s.pins.cmdHdr s.pins.cmdData ≠ .ok .drop →
    (∀ j, j < k → (s.pinsAt j).rst = false) →
    (trace accepted k s).length = 1 → run k s = .next t →
    t.arch = s.arch ∧ (t.phase = .idle → t = { s with pins := t.pins, env := t.env })

/-- Rule R62: over any number of edges without reset, from any state, the commands accepted and the command in
progress at the start, if any, are as many as the responses delivered and the command in progress at the end. -/
def Obligations.EveryCommandGetsOneResponse : Prop :=
  ∀ (k : Nat) (s t : State), (∀ j, j < k → (s.pinsAt j).rst = false) → run k s = .next t →
    (trace accepted k s).length + (if s.phase = .idle then 0 else 1) =
      (trace delivered k s).length + (if t.phase = .idle then 0 else 1)

/-- Rules R63, R104: over any number of edges without reset, from a state with a request pending exactly in the
`_WAIT` phases, the requests taken by the core and the one pending at the start are as many as the answers taken by
the block and the one pending at the end: one request at a time, each answered once. -/
def Obligations.EveryCipherRequestGetsOneAnswer : Prop :=
  ∀ (k : Nat) (s t : State), (∀ j, j < k → (s.pinsAt j).rst = false) → pendingInv s = true →
    run k s = .next t →
    (trace requested k s).length + s.answer.toList.length =
      (trace (fun u => if ansTaken u then u.answer else none) k s).length + t.answer.toList.length

/-- Rules R37, R153: at any edge, in any phase, two states that differ in nothing but PAD, KREG, CK and the 127
discarded bits of a pending ciphertext deliver the same response, if any; and a step that takes no cipher request,
be it a wait or a reset in a `_REQ` phase, takes none from either and leads to two such states. What the secrets
decide reaches the host only through the core's `err` and the flip bits. -/
def Obligations.SecretsReachNoResponse : Prop :=
  ∀ s t : State, sameButSecrets s t →
    delivered s = delivered t ∧
    (reqTaken s = false →
      reqTaken t = false ∧ ∃ s' t', step s = .next s' ∧ step t = .next t' ∧ sameButSecrets s' t')

/-! ## The two levels agree -/

/-- Rules R128, R154, R238: from IDLE, any command word offered to the block with a cooperating environment runs in
2 edges plus 2 for each cipher request of the transaction, a handshake at every edge, to the transaction's
architectural state with every working register zero, delivers exactly the transaction's response and makes exactly
its requests in order. -/
def Obligations.PhaseLevelRunsTheTransaction : Prop :=
  ∀ s : State, s.pins.rst = false → s.phase = .idle → s.answer = none → s.pins.cmdValid = true →
    let r := txnCommand s.pins.cmdHdr s.pins.cmdData s.drawAt s.arch
    let k := 2 * r.requests.length + 2
    s.cooperates (2 * r.requests.length + 1) = true →
    run k s = .next (idleWith r.arch (s.pinsAt k) (s.envAfter k)) ∧
    trace delivered k s = [r.rsp] ∧ trace requested k s = r.requests ∧ handshakes k s = k

/-- Rules R110, R142, R154, R170, R175, R178: on a keyed block whose core has a valid key, each scramble command
completes with a cooperating environment and no failing draw: `2n + 2` edges later the block is in IDLE with the
architectural state unchanged, the transform of rule R141 under the free cipher has been delivered with status OK, in
the form of the command, and the `n` padded blocks have been requested in ascending order. -/
def Obligations.ScrambleCommandsDeliverTheTransform : Prop :=
  ∀ (s : State) (i : Instr) (buf0 : Block) (n : Nat) (fmt : Bool),
    s.pins.rst = false → s.phase = .idle → s.answer = none → s.pins.cmdValid = true →
    decodeCmd s.pins.cmdHdr s.pins.cmdData = .ok i → s.keyed = true → s.ckValid = true →
    ((i = .scramble (BitVec.ofNat 8 n) buf0 ∧ n ≤ 128 ∧ fmt = false) ∨
      (∃ a : Addr4, (i = .scrambleIpv4 a ∨ i = .scrambleIp (.v4 a)) ∧
        buf0 = BitVec.ofNat 128 (a.toNat * 2 ^ 96) ∧ n = 32 ∧ fmt = true) ∨
      ((i = .scrambleIpv6 buf0 ∨ i = .scrambleIp (.v6 buf0)) ∧ n = 128 ∧ fmt = false)) →
    s.cooperates (2 * n + 1) = true → (∀ j, j < n → (s.drawAt j).err = false) →
    let r := scramble Config.E s.ck s.pad buf0 n
    run (2 * n + 2) s = .next (idleWith s.arch (s.pinsAt (2 * n + 2)) (s.envAfter (2 * n + 2))) ∧
    trace delivered (2 * n + 2) s =
      [{ status := .ok, data := if fmt then BitVec.ofNat 128 (r.toNat / 2 ^ 96) else r }] ∧
    trace requested (2 * n + 2) s = (List.range n).map fun p => .encrypt (padded buf0 s.pad p)

/-- Rules R151, R154, R198, R238: where the core draws the first failure at round `j`, the scramble command ends after
`j + 1` requests with ENCRYPTION_ERROR, information 0 and the architectural state unchanged. -/
def Obligations.FirstFailingRoundEndsTheCommand : Prop :=
  ∀ (s : State) (i : Instr) (buf0 : Block) (n j : Nat),
    s.pins.rst = false → s.phase = .idle → s.answer = none → s.pins.cmdValid = true →
    decodeCmd s.pins.cmdHdr s.pins.cmdData = .ok i → s.keyed = true → s.ckValid = true →
    ((i = .scramble (BitVec.ofNat 8 n) buf0 ∧ n ≤ 128) ∨
      (∃ a : Addr4, (i = .scrambleIpv4 a ∨ i = .scrambleIp (.v4 a)) ∧
        buf0 = BitVec.ofNat 128 (a.toNat * 2 ^ 96) ∧ n = 32) ∨
      ((i = .scrambleIpv6 buf0 ∨ i = .scrambleIp (.v6 buf0)) ∧ n = 128)) →
    j < n → s.cooperates (2 * j + 3) = true → (∀ p, p < j → (s.drawAt p).err = false) →
    (s.drawAt j).err = true →
    run (2 * j + 4) s = .next (idleWith s.arch (s.pinsAt (2 * j + 4)) (s.envAfter (2 * j + 4))) ∧
    trace delivered (2 * j + 4) s = [{ status := .encryptionError, data := 0#128 }] ∧
    trace requested (2 * j + 4) s = (List.range (j + 1)).map fun p => .encrypt (padded buf0 s.pad p)

/-- Rules R232, R233, R239: from every state that meets the invariant, in whatever phase, with a cooperating
environment the block is in IDLE after at most 257 edges. -/
def Obligations.CooperatingEnvironmentBringsTheBlockToIdle : Prop :=
  ∀ s : State, Inv s → s.pins.cooperates = true → s.cooperates 256 = true →
    ∃ k t, k ≤ 257 ∧ run k s = .next t ∧ t.phase = .idle

/-- Rule R206: the statuses each command word can end with, at transaction level, whatever the state and the
core's draws. -/
def Obligations.StatusesAreThoseOfTheCommand : Prop :=
  ∀ (hdr : Header) (data : CmdData) (d : Nat → Draw) (a : Arch),
    let st := (txnCommand hdr data d a).rsp.status
    match decodeCmd hdr data with
    | .error _ => st = .illegalCmd
    | .ok (.construct _ _) => st = .ok ∨ st = .keyInvalidLength ∨ st = .keyRejected ∨ st = .encryptionError
    | .ok .drop => st = .ok
    | .ok (.scramble _ _) => st = .ok ∨ st = .encryptionError ∨ st = .nbitsRange ∨ st = .notKeyed
    | .ok _ => st = .ok ∨ st = .encryptionError ∨ st = .notKeyed

/-! ## The transform, for every cipher -/

/-- Rule R152: the result position by position; from the bit count on the buffer passes through, and before it each
position is inverted by the flip bit, bit 127 of the ciphertext of its padded block. -/
def Obligations.ResultPositionByPosition : Prop :=
  ∀ (E : Block → Block → Block) (ck pad buf : Block) (n p : Nat), n ≤ 128 → p < 128 →
    (n ≤ p → pos (scramble E ck pad buf n) p = pos buf p) ∧
    (p < n → pos (scramble E ck pad buf n) p =
      (pos buf p ^^ (E ck ((buf &&& himask p) ||| (pad &&& ~~~himask p))).getLsbD 127))

/-- Rule R10: the prefix mask is the number `1^i ‖ 0^(128-i)`. -/
def Obligations.PrefixMaskIsOnesThenZeros : Prop :=
  ∀ i : Nat, i ≤ 128 → (himask i).toNat = 2 ^ 128 - 2 ^ (128 - i)

/-- Rule R157: with at least one round the first flip bit is bit 127 of `E(CK, PAD)`, whatever the address. -/
def Obligations.FirstFlipBitIsIndependentOfTheAddress : Prop :=
  ∀ (E : Block → Block → Block) (ck pad buf : Block) (n : Nat), 1 ≤ n → n ≤ 128 →
    pos (scramble E ck pad buf n) 0 = (pos buf 0 ^^ (E ck pad).getLsbD 127)

/-- Rule R156: two buffers that agree on their leading `k <= n` positions get results that do, under every cipher;
and where they first differ at position `k < n`, so do the results. -/
def Obligations.SharedLeadingBitsArePreserved : Prop :=
  ∀ (E : Block → Block → Block) (ck pad b₁ b₂ : Block) (n k : Nat), n ≤ 128 → k ≤ n →
    (∀ p, p < k → pos b₁ p = pos b₂ p) →
    (∀ p, p < k → pos (scramble E ck pad b₁ n) p = pos (scramble E ck pad b₂ n) p) ∧
    (k < n → pos b₁ k ≠ pos b₂ k → pos (scramble E ck pad b₁ n) k ≠ pos (scramble E ck pad b₂ n) k)

/-- Rule R158: for a fixed key and bit count the transform is a bijection on 128-bit values, under every cipher. -/
def Obligations.TransformIsABijection : Prop :=
  ∀ (E : Block → Block → Block) (ck pad : Block) (n : Nat), n ≤ 128 →
    Function.Bijective fun buf => scramble E ck pad buf n

/-- Rule R159: no bits change nothing; 128 bits give every position its flip bit; every count gives the leading bits of the 128-bit transform and the buffer's
own bits after them; two counts agree on the leading positions of both. -/
def Obligations.BitCountSelectsTheLeadingBits : Prop :=
  ∀ (E : Block → Block → Block) (ck pad buf : Block) (n m : Nat), n ≤ 128 → m ≤ 128 →
    scramble E ck pad buf 0 = buf ∧
    (∀ p, p < 128 → pos (scramble E ck pad buf 128) p = (pos buf p ^^ (E ck (padded buf pad p)).getLsbD 127)) ∧
    scramble E ck pad buf n = (scramble E ck pad buf 128 &&& himask n) ||| (buf &&& ~~~himask n) ∧
    (∀ p, p < n → p < m → pos (scramble E ck pad buf n) p = pos (scramble E ck pad buf m) p)

/-- Rule R180, for one keyed state with a valid key and no failing draw: (a) and (b) the typed commands by SCRAMBLE,
(c) the IPv4 result by the leading bits of any IPv6 result over the same leading bits, (d) shared leading bits of IPv4
addresses. -/
def Obligations.TypedCommandsAgreeWithScramble : Prop :=
  ∀ (d : Nat → Draw) (a : Arch) (addr4 addr4' : Addr4) (x : BitVec 96) (addr6 : Block),
    a.keyed = true → a.ckValid = true → (∀ j, (d j).err = false) →
    (txnScrambleIpv4 addr4 d a).rsp.data =
      BitVec.ofNat 128 ((txnScrambleRaw 32#8 (addr4 ++ 0#96) d a).rsp.data.toNat / 2 ^ 96) ∧
    (txnScrambleIpv6 addr6 d a).rsp = (txnScrambleRaw 128#8 addr6 d a).rsp ∧
    (txnScrambleIpv4 addr4 d a).rsp.data.toNat =
      (txnScrambleIpv6 (addr4 ++ x) d a).rsp.data.toNat / 2 ^ 96 ∧
    (∀ k, k ≤ 32 → (∀ p, p < k → addr4.getMsbD p = addr4'.getMsbD p) →
      ∀ p, p < k → (txnScrambleIpv4 addr4 d a).rsp.data.getMsbD (96 + p) =
        (txnScrambleIpv4 addr4' d a).rsp.data.getMsbD (96 + p))

/-- Rule R179: an IPv4 command, in either of its two spellings and whatever its outcome, answers with zeros above
bit 31. -/
def Obligations.Ipv4ResponsesAreFourBytes : Prop :=
  ∀ (d : Nat → Draw) (a : Arch) (addr4 : Addr4),
    (txnScrambleIpv4 addr4 d a).rsp.data.toNat < 2 ^ 32 ∧
    txnScrambleIp (.v4 addr4) d a = txnScrambleIpv4 addr4 d a

/-! ## Words and codes -/

/-- Rule R70: the four word types, each as one number of its length, most significant field first: a command word is
`cmd_hdr ‖ cmd_data`, and so it is split, decoded and read from the opcode table; a response word is
`rsp_status ‖ rsp_data`; a request is `cc_req_kind ‖ cc_req_data` with the kind at bit 128; an answer is
`cc_rsp_err ‖ cc_rsp_data`. -/
def Obligations.WordsAreTheirFieldsInOrder : Prop :=
  (∀ (hdr : BitVec 32) (data : BitVec 256),
    (cmdWord hdr data).toNat = hdr.toNat * 2 ^ 256 + data.toNat ∧
    decodeCmdWord (cmdWord hdr data) = decodeCmd hdr data ∧
    tableWord 288 (cmdWord hdr data).toNat = some (.cmd hdr data)) ∧
  (∀ w : BitVec 288, cmdWord (CmdWord.hdr w) (CmdWord.data w) = w) ∧
  (∀ r : Rsp, (r.word : BitVec 132).toNat = r.status.code.toNat * 2 ^ 128 + r.data.toNat) ∧
  (∀ (kind : Bool) (data : BitVec 128),
    (encodeCcReq kind data : BitVec 129).toNat = kind.toNat * 2 ^ 128 + data.toNat ∧
    (encodeCcReq kind data).getLsbD 128 = kind) ∧
  (∀ a : CcRsp, (a.word : BitVec 129).toNat = a.err.toNat * 2 ^ 128 + a.data.toNat)

/-- Rules R29, R70, R78, R190: the seven status codes stand in this order in the top four bits of the response word,
and no other value does; PHASE has the eight values of R29, each 3-bit value one phase. -/
def Obligations.StatusAndPhaseValuesAreTheTables : Prop :=
  (∀ d : Block,
    [Status.ok, .keyInvalidLength, .keyRejected, .encryptionError, .nbitsRange, .notKeyed, .illegalCmd].map
      (fun st => (Rsp.mk st d).word.toNat / 2 ^ 128) = [0, 1, 2, 3, 4, 5, 6]) ∧
  (∀ r : Rsp, r.word.toNat / 2 ^ 128 ≤ 6) ∧
  [Phase.idle, .keyReq, .keyWait, .padReq, .padWait, .rndReq, .rndWait, .resp].map (fun p => p.code.toNat)
    = [0, 1, 2, 3, 4, 5, 6, 7] ∧
  (∀ c : BitVec 3, ∃ p : Phase, p.code = c ∧ ∀ q : Phase, q.code = c → q = p)
end

