-- ==== Sys2Proof/Laws/State.lean ====
section
/-! SUPPORT. One lemma per field per update of the state, each true by `rfl` and in the simp set, so that no
later proof unfolds a record update. -/

namespace Sys2Proof.Machine

section clearKeyed
variable (s : State)

@[simp] theorem clearKeyed_pad : (clearKeyed s).pad = 0#128 := rfl
@[simp] theorem clearKeyed_keyed : (clearKeyed s).keyed = false := rfl
@[simp] theorem clearKeyed_buf : (clearKeyed s).buf = s.buf := rfl
@[simp] theorem clearKeyed_flip : (clearKeyed s).flip = s.flip := rfl
@[simp] theorem clearKeyed_kreg : (clearKeyed s).kreg = s.kreg := rfl
@[simp] theorem clearKeyed_res : (clearKeyed s).res = s.res := rfl
@[simp] theorem clearKeyed_i : (clearKeyed s).i = s.i := rfl
@[simp] theorem clearKeyed_n : (clearKeyed s).n = s.n := rfl
@[simp] theorem clearKeyed_fmt : (clearKeyed s).fmt = s.fmt := rfl
@[simp] theorem clearKeyed_stat : (clearKeyed s).stat = s.stat := rfl
@[simp] theorem clearKeyed_phase : (clearKeyed s).phase = s.phase := rfl
@[simp] theorem clearKeyed_ck : (clearKeyed s).ck = s.ck := rfl
@[simp] theorem clearKeyed_ckValid : (clearKeyed s).ckValid = s.ckValid := rfl
@[simp] theorem clearKeyed_answer : (clearKeyed s).answer = s.answer := rfl
@[simp] theorem clearKeyed_pins : (clearKeyed s).pins = s.pins := rfl
@[simp] theorem clearKeyed_env : (clearKeyed s).env = s.env := rfl

end clearKeyed

section setKeyed
variable (p : Block) (s : State)

@[simp] theorem setKeyed_pad : (setKeyed p s).pad = p := rfl
@[simp] theorem setKeyed_keyed : (setKeyed p s).keyed = true := rfl
@[simp] theorem setKeyed_buf : (setKeyed p s).buf = s.buf := rfl
@[simp] theorem setKeyed_flip : (setKeyed p s).flip = s.flip := rfl
@[simp] theorem setKeyed_kreg : (setKeyed p s).kreg = s.kreg := rfl
@[simp] theorem setKeyed_res : (setKeyed p s).res = s.res := rfl
@[simp] theorem setKeyed_i : (setKeyed p s).i = s.i := rfl
@[simp] theorem setKeyed_n : (setKeyed p s).n = s.n := rfl
@[simp] theorem setKeyed_fmt : (setKeyed p s).fmt = s.fmt := rfl
@[simp] theorem setKeyed_stat : (setKeyed p s).stat = s.stat := rfl
@[simp] theorem setKeyed_phase : (setKeyed p s).phase = s.phase := rfl
@[simp] theorem setKeyed_ck : (setKeyed p s).ck = s.ck := rfl
@[simp] theorem setKeyed_ckValid : (setKeyed p s).ckValid = s.ckValid := rfl
@[simp] theorem setKeyed_answer : (setKeyed p s).answer = s.answer := rfl
@[simp] theorem setKeyed_pins : (setKeyed p s).pins = s.pins := rfl
@[simp] theorem setKeyed_env : (setKeyed p s).env = s.env := rfl

end setKeyed

section enterResp
variable (st : Status) (d : Block) (s : State)

@[simp] theorem enterResp_pad : (enterResp st d s).pad = s.pad := rfl
@[simp] theorem enterResp_keyed : (enterResp st d s).keyed = s.keyed := rfl
@[simp] theorem enterResp_buf : (enterResp st d s).buf = 0#128 := rfl
@[simp] theorem enterResp_flip : (enterResp st d s).flip = 0#128 := rfl
@[simp] theorem enterResp_kreg : (enterResp st d s).kreg = 0#256 := rfl
@[simp] theorem enterResp_res : (enterResp st d s).res = d := rfl
@[simp] theorem enterResp_i : (enterResp st d s).i = 0#8 := rfl
@[simp] theorem enterResp_n : (enterResp st d s).n = 0#8 := rfl
@[simp] theorem enterResp_fmt : (enterResp st d s).fmt = false := rfl
@[simp] theorem enterResp_stat : (enterResp st d s).stat = st := rfl
@[simp] theorem enterResp_phase : (enterResp st d s).phase = .resp := rfl
@[simp] theorem enterResp_ck : (enterResp st d s).ck = s.ck := rfl
@[simp] theorem enterResp_ckValid : (enterResp st d s).ckValid = s.ckValid := rfl
@[simp] theorem enterResp_answer : (enterResp st d s).answer = s.answer := rfl
@[simp] theorem enterResp_pins : (enterResp st d s).pins = s.pins := rfl
@[simp] theorem enterResp_env : (enterResp st d s).env = s.env := rfl

end enterResp

section sendRsp
variable (s : State)

@[simp] theorem sendRsp_pad : (sendRsp s).pad = s.pad := rfl
@[simp] theorem sendRsp_keyed : (sendRsp s).keyed = s.keyed := rfl
@[simp] theorem sendRsp_buf : (sendRsp s).buf = s.buf := rfl
@[simp] theorem sendRsp_flip : (sendRsp s).flip = s.flip := rfl
@[simp] theorem sendRsp_kreg : (sendRsp s).kreg = s.kreg := rfl
@[simp] theorem sendRsp_res : (sendRsp s).res = 0#128 := rfl
@[simp] theorem sendRsp_i : (sendRsp s).i = s.i := rfl
@[simp] theorem sendRsp_n : (sendRsp s).n = s.n := rfl
@[simp] theorem sendRsp_fmt : (sendRsp s).fmt = s.fmt := rfl
@[simp] theorem sendRsp_stat : (sendRsp s).stat = .ok := rfl
@[simp] theorem sendRsp_phase : (sendRsp s).phase = .idle := rfl
@[simp] theorem sendRsp_ck : (sendRsp s).ck = s.ck := rfl
@[simp] theorem sendRsp_ckValid : (sendRsp s).ckValid = s.ckValid := rfl
@[simp] theorem sendRsp_answer : (sendRsp s).answer = s.answer := rfl
@[simp] theorem sendRsp_pins : (sendRsp s).pins = s.pins := rfl
@[simp] theorem sendRsp_env : (sendRsp s).env = s.env := rfl

end sendRsp

section startLoop
variable (j : Job) (s : State)

@[simp] theorem startLoop_pad : (startLoop j s).pad = s.pad := rfl
@[simp] theorem startLoop_keyed : (startLoop j s).keyed = s.keyed := rfl
@[simp] theorem startLoop_buf : (startLoop j s).buf = j.buf0 := rfl
@[simp] theorem startLoop_flip : (startLoop j s).flip = 0#128 := rfl
@[simp] theorem startLoop_kreg : (startLoop j s).kreg = s.kreg := rfl
@[simp] theorem startLoop_res : (startLoop j s).res = s.res := rfl
@[simp] theorem startLoop_i : (startLoop j s).i = 0#8 := rfl
@[simp] theorem startLoop_n : (startLoop j s).n = j.n := rfl
@[simp] theorem startLoop_fmt : (startLoop j s).fmt = j.fmt := rfl
@[simp] theorem startLoop_stat : (startLoop j s).stat = s.stat := rfl
@[simp] theorem startLoop_phase : (startLoop j s).phase = .rndReq := rfl
@[simp] theorem startLoop_ck : (startLoop j s).ck = s.ck := rfl
@[simp] theorem startLoop_ckValid : (startLoop j s).ckValid = s.ckValid := rfl
@[simp] theorem startLoop_answer : (startLoop j s).answer = s.answer := rfl
@[simp] theorem startLoop_pins : (startLoop j s).pins = s.pins := rfl
@[simp] theorem startLoop_env : (startLoop j s).env = s.env := rfl

end startLoop

section requestTaken
variable (a : CcRsp) (s : State)

@[simp] theorem requestTaken_pad : (requestTaken a s).pad = s.pad := rfl
@[simp] theorem requestTaken_keyed : (requestTaken a s).keyed = s.keyed := rfl
@[simp] theorem requestTaken_buf : (requestTaken a s).buf = s.buf := rfl
@[simp] theorem requestTaken_flip : (requestTaken a s).flip = s.flip := rfl
@[simp] theorem requestTaken_kreg : (requestTaken a s).kreg = s.kreg := rfl
@[simp] theorem requestTaken_res : (requestTaken a s).res = s.res := rfl
@[simp] theorem requestTaken_i : (requestTaken a s).i = s.i := rfl
@[simp] theorem requestTaken_n : (requestTaken a s).n = s.n := rfl
@[simp] theorem requestTaken_fmt : (requestTaken a s).fmt = s.fmt := rfl
@[simp] theorem requestTaken_stat : (requestTaken a s).stat = s.stat := rfl
@[simp] theorem requestTaken_phase : (requestTaken a s).phase = s.phase.afterRequest := rfl
@[simp] theorem requestTaken_ck : (requestTaken a s).ck = s.ck := rfl
@[simp] theorem requestTaken_ckValid : (requestTaken a s).ckValid = s.ckValid := rfl
@[simp] theorem requestTaken_answer : (requestTaken a s).answer = some a := rfl
@[simp] theorem requestTaken_pins : (requestTaken a s).pins = s.pins := rfl
@[simp] theorem requestTaken_env : (requestTaken a s).env = s.env := rfl

end requestTaken

section takeLoadkey
variable (k : Block) (s : State)

@[simp] theorem takeLoadkey_pad : (takeLoadkey k s).pad = s.pad := rfl
@[simp] theorem takeLoadkey_keyed : (takeLoadkey k s).keyed = s.keyed := rfl
@[simp] theorem takeLoadkey_buf : (takeLoadkey k s).buf = s.buf := rfl
@[simp] theorem takeLoadkey_flip : (takeLoadkey k s).flip = s.flip := rfl
@[simp] theorem takeLoadkey_kreg : (takeLoadkey k s).kreg = s.kreg := rfl
@[simp] theorem takeLoadkey_res : (takeLoadkey k s).res = s.res := rfl
@[simp] theorem takeLoadkey_i : (takeLoadkey k s).i = s.i := rfl
@[simp] theorem takeLoadkey_n : (takeLoadkey k s).n = s.n := rfl
@[simp] theorem takeLoadkey_fmt : (takeLoadkey k s).fmt = s.fmt := rfl
@[simp] theorem takeLoadkey_stat : (takeLoadkey k s).stat = s.stat := rfl
@[simp] theorem takeLoadkey_phase : (takeLoadkey k s).phase = s.phase.afterRequest := rfl
@[simp] theorem takeLoadkey_ck : (takeLoadkey k s).ck = loadkeyCk k s.pins.draw := rfl
@[simp] theorem takeLoadkey_ckValid : (takeLoadkey k s).ckValid = Config.keyOk k := rfl
@[simp] theorem takeLoadkey_answer : (takeLoadkey k s).answer = some (loadkeyReply k s.pins.draw) := rfl
@[simp] theorem takeLoadkey_pins : (takeLoadkey k s).pins = s.pins := rfl
@[simp] theorem takeLoadkey_env : (takeLoadkey k s).env = s.env := rfl

end takeLoadkey

section takeEncrypt
variable (b : Block) (s : State)

@[simp] theorem takeEncrypt_pad : (takeEncrypt b s).pad = s.pad := rfl
@[simp] theorem takeEncrypt_keyed : (takeEncrypt b s).keyed = s.keyed := rfl
@[simp] theorem takeEncrypt_buf : (takeEncrypt b s).buf = s.buf := rfl
@[simp] theorem takeEncrypt_flip : (takeEncrypt b s).flip = s.flip := rfl
@[simp] theorem takeEncrypt_kreg : (takeEncrypt b s).kreg = s.kreg := rfl
@[simp] theorem takeEncrypt_res : (takeEncrypt b s).res = s.res := rfl
@[simp] theorem takeEncrypt_i : (takeEncrypt b s).i = s.i := rfl
@[simp] theorem takeEncrypt_n : (takeEncrypt b s).n = s.n := rfl
@[simp] theorem takeEncrypt_fmt : (takeEncrypt b s).fmt = s.fmt := rfl
@[simp] theorem takeEncrypt_stat : (takeEncrypt b s).stat = s.stat := rfl
@[simp] theorem takeEncrypt_phase : (takeEncrypt b s).phase = s.phase.afterRequest := rfl
@[simp] theorem takeEncrypt_ck : (takeEncrypt b s).ck = s.ck := rfl
@[simp] theorem takeEncrypt_ckValid : (takeEncrypt b s).ckValid = s.ckValid := rfl
@[simp] theorem takeEncrypt_answer : (takeEncrypt b s).answer = some (encryptReply s.ckValid s.ck b s.pins.draw) := rfl
@[simp] theorem takeEncrypt_pins : (takeEncrypt b s).pins = s.pins := rfl
@[simp] theorem takeEncrypt_env : (takeEncrypt b s).env = s.env := rfl

end takeEncrypt

section resetEdge
variable (s : State)

@[simp] theorem resetEdge_pad : (resetEdge s).pad = 0#128 := rfl
@[simp] theorem resetEdge_keyed : (resetEdge s).keyed = false := rfl
@[simp] theorem resetEdge_buf : (resetEdge s).buf = 0#128 := rfl
@[simp] theorem resetEdge_flip : (resetEdge s).flip = 0#128 := rfl
@[simp] theorem resetEdge_kreg : (resetEdge s).kreg = 0#256 := rfl
@[simp] theorem resetEdge_res : (resetEdge s).res = 0#128 := rfl
@[simp] theorem resetEdge_i : (resetEdge s).i = 0#8 := rfl
@[simp] theorem resetEdge_n : (resetEdge s).n = 0#8 := rfl
@[simp] theorem resetEdge_fmt : (resetEdge s).fmt = false := rfl
@[simp] theorem resetEdge_stat : (resetEdge s).stat = .ok := rfl
@[simp] theorem resetEdge_phase : (resetEdge s).phase = .idle := rfl
@[simp] theorem resetEdge_ck : (resetEdge s).ck = s.pins.draw.ck := rfl
@[simp] theorem resetEdge_ckValid : (resetEdge s).ckValid = false := rfl
@[simp] theorem resetEdge_answer : (resetEdge s).answer = none := rfl
@[simp] theorem resetEdge_pins : (resetEdge s).pins = s.pins := rfl
@[simp] theorem resetEdge_env : (resetEdge s).env = s.env := rfl

end resetEdge

section advance
variable (s : State)

@[simp] theorem advance_pad : (advance s).pad = s.pad := rfl
@[simp] theorem advance_keyed : (advance s).keyed = s.keyed := rfl
@[simp] theorem advance_buf : (advance s).buf = s.buf := rfl
@[simp] theorem advance_flip : (advance s).flip = s.flip := rfl
@[simp] theorem advance_kreg : (advance s).kreg = s.kreg := rfl
@[simp] theorem advance_res : (advance s).res = s.res := rfl
@[simp] theorem advance_i : (advance s).i = s.i := rfl
@[simp] theorem advance_n : (advance s).n = s.n := rfl
@[simp] theorem advance_fmt : (advance s).fmt = s.fmt := rfl
@[simp] theorem advance_stat : (advance s).stat = s.stat := rfl
@[simp] theorem advance_phase : (advance s).phase = s.phase := rfl
@[simp] theorem advance_ck : (advance s).ck = s.ck := rfl
@[simp] theorem advance_ckValid : (advance s).ckValid = s.ckValid := rfl
@[simp] theorem advance_answer : (advance s).answer = s.answer := rfl
@[simp] theorem advance_pins : (advance s).pins = s.env.headD Pins.quiet := rfl
@[simp] theorem advance_env : (advance s).env = s.env.tail := rfl

end advance

/-- Raising an error is entering RESP with its code (rule R196). -/
@[simp] theorem raise_eq_enterResp (e : Status) (d : Block) (s : State) : raise e d s = enterResp e d s := rfl

section arch
variable (s : State)

@[simp] theorem arch_pad : s.arch.pad = s.pad := rfl
@[simp] theorem arch_keyed : s.arch.keyed = s.keyed := rfl
@[simp] theorem arch_ck : s.arch.ck = s.ck := rfl
@[simp] theorem arch_ckValid : s.arch.ckValid = s.ckValid := rfl

end arch

section idleWith
variable (a : Arch) (p : Pins) (e : List Pins)

@[simp] theorem idleWith_pad : (idleWith a p e).pad = a.pad := rfl
@[simp] theorem idleWith_keyed : (idleWith a p e).keyed = a.keyed := rfl
@[simp] theorem idleWith_buf : (idleWith a p e).buf = 0#128 := rfl
@[simp] theorem idleWith_flip : (idleWith a p e).flip = 0#128 := rfl
@[simp] theorem idleWith_kreg : (idleWith a p e).kreg = 0#256 := rfl
@[simp] theorem idleWith_res : (idleWith a p e).res = 0#128 := rfl
@[simp] theorem idleWith_i : (idleWith a p e).i = 0#8 := rfl
@[simp] theorem idleWith_n : (idleWith a p e).n = 0#8 := rfl
@[simp] theorem idleWith_fmt : (idleWith a p e).fmt = false := rfl
@[simp] theorem idleWith_stat : (idleWith a p e).stat = .ok := rfl
@[simp] theorem idleWith_phase : (idleWith a p e).phase = .idle := rfl
@[simp] theorem idleWith_ck : (idleWith a p e).ck = a.ck := rfl
@[simp] theorem idleWith_ckValid : (idleWith a p e).ckValid = a.ckValid := rfl
@[simp] theorem idleWith_answer : (idleWith a p e).answer = none := rfl
@[simp] theorem idleWith_pins : (idleWith a p e).pins = p := rfl
@[simp] theorem idleWith_env : (idleWith a p e).env = e := rfl

end idleWith

end Sys2Proof.Machine
end

