-- ==== Sys2Proof/Laws/Operands.lean ====
section
/-! SUPPORT. The pure data path position by position (rules R7, R10, R11, R150, R152). -/

namespace Sys2Proof.Machine

/-- Position `p` is bit `127 - p` (rule R7). -/
theorem pos_eq_getLsbD (v : Block) {p : Nat} (h : p < 128) : pos v p = v.getLsbD (127 - p) := by
  simp [pos, BitVec.getMsbD, h]

/-- There are 128 positions. -/
theorem pos_beyond (v : Block) {p : Nat} (h : 128 ≤ p) : pos v p = false := by
  simp [pos, BitVec.getMsbD, Nat.not_lt.mpr h]

/-- Two blocks with the same 128 positions are equal. -/
theorem eq_of_pos_eq {a b : Block} (h : ∀ p, p < 128 → pos a p = pos b p) : a = b :=
  BitVec.eq_of_getMsbD_eq fun p hp => h p hp

@[simp] theorem pos_xor (a b : Block) (p : Nat) : pos (a ^^^ b) p = (pos a p ^^ pos b p) := by simp [pos]
@[simp] theorem pos_and (a b : Block) (p : Nat) : pos (a &&& b) p = (pos a p && pos b p) := by simp [pos]
@[simp] theorem pos_or (a b : Block) (p : Nat) : pos (a ||| b) p = (pos a p || pos b p) := by simp [pos]
@[simp] theorem pos_zero (p : Nat) : pos 0#128 p = false := by simp [pos]

/-- The complement at a position. -/
theorem pos_not (a : Block) {p : Nat} (h : p < 128) : pos (~~~a) p = !pos a p := by simp [pos, h]

/-- The bits of the prefix mask: exactly the first `i` positions are set (rule R10). -/
theorem pos_himask_eq (i : Nat) {p : Nat} (h : p < 128) : pos (himask i) p = decide (p < i) := by
  unfold himask
  by_cases hi : i = 0
  · simp [hi]
  · simp only [hi, if_false, pos, BitVec.getMsbD, h, decide_true, Bool.true_and, BitVec.getLsbD_shiftLeft,
      BitVec.getLsbD_allOnes]
    rw [Bool.eq_iff_iff]
    simp only [Bool.and_eq_true, Bool.not_eq_true', decide_eq_true_eq, decide_eq_false_iff_not]
    omega

/-- The bits of the padded block: the buffer before position `i`, the Padding Block from it on (rule R11). -/
theorem pos_padded_eq (buf pad : Block) (i : Nat) {p : Nat} (h : p < 128) :
    pos (padded buf pad i) p = if p < i then pos buf p else pos pad p := by
  unfold padded
  by_cases hp : p < i <;> simp [pos_not, pos_himask_eq, h, hp]

/-- The bits of the flip mask after a flip bit is put at position `i` (rule R150). -/
theorem pos_setFlip_eq (flip : Block) {i : Nat} (f : Bool) {p : Nat} (hi : i < 128) (h : p < 128) :
    pos (setFlip flip i f) p = (pos flip p || (decide (p = i) && f)) := by
  unfold setFlip
  simp only [pos_or]
  congr 1
  simp only [pos, BitVec.getMsbD, h, decide_true, Bool.true_and, BitVec.getLsbD_shiftLeft,
    BitVec.getLsbD_setWidth, BitVec.getLsbD_ofBool]
  by_cases hpi : p = i
  · subst hpi; simp; omega
  · simp only [hpi, decide_false, Bool.false_and]
    by_cases hlt : 127 - p < 127 - i
    · simp [hlt]
    · have : 127 - p - (127 - i) ≠ 0 := by omega
      simp [this]

/-- No round writes a position at or beyond the count (rules R23, R152). -/
theorem pos_flipMask_beyond (E : Block → Block → Block) (ck pad buf : Block) {n p : Nat}
    (hn : n ≤ 128) (hp : n ≤ p) : pos (flipMask E ck pad buf n) p = false := by
  induction n with
  | zero => simp [flipMask]
  | succ n ih =>
    by_cases h : p < 128
    · simp [flipMask, pos_setFlip_eq _ _ (by omega : n < 128) h, ih (by omega) (by omega)]
      omega
    · exact pos_beyond _ (by omega)

end Sys2Proof.Machine
end

