-- ==== Sys2Proof/Laws/Ops.lean ====
section
/-! SUPPORT. What each shared operation can do, said once. -/

namespace Sys2Proof.Machine

/-- The acceptance of a scramble command does one of four things (rules R144 to R147). -/
theorem acceptScramble_cases (j : Job) (s : State) :
    (s.keyed = false ∧ acceptScramble j s = enterResp .notKeyed 0#128 s) ∨
    (s.keyed = true ∧ 128#8 < j.n ∧ acceptScramble j s = enterResp .nbitsRange (j.n.setWidth 128) s) ∨
    (s.keyed = true ∧ j.n = 0#8 ∧ acceptScramble j s = enterResp .ok j.buf0 s) ∨
    (s.keyed = true ∧ 0#8 < j.n ∧ j.n ≤ 128#8 ∧ acceptScramble j s = startLoop j s) := by
  unfold acceptScramble
  cases hk : s.keyed
  · simp
  · by_cases h1 : 128#8 < j.n
    · simp [h1]
    · by_cases h0 : j.n = 0#8
      · simp [h0]
      · have h2 : 0#8 < j.n := by bv_omega
        have h3 : j.n ≤ 128#8 := by bv_omega
        simp [h1, h0, h2, h3]

/-- The acceptance of a CONSTRUCT does one of two things (rules R122, R123). -/
theorem acceptConstruct_cases (keylen : BitVec 8) (key : KeyWord) (s : State) :
    (keylen ≠ 32#8 ∧ acceptConstruct keylen key s = enterResp .keyInvalidLength (keylen.setWidth 128) s) ∨
    (keylen = 32#8 ∧ acceptConstruct keylen key s = { clearKeyed s with kreg := key, phase := .keyReq }) := by
  unfold acceptConstruct
  by_cases h : keylen = 32#8 <;> simp [h]

/-- The answer to a LOADKEY ends the CONSTRUCT or asks for the Padding Block (rule R125). -/
theorem keyAnswered_cases (a : CcRsp) (s : State) :
    (a.err = true ∧ keyAnswered a s = enterResp .keyRejected 0#128 s) ∨
    (a.err = false ∧ keyAnswered a s = { s with phase := .padReq }) := by
  unfold keyAnswered
  cases a.err <;> simp

/-- The answer to the seed ENCRYPT ends the CONSTRUCT, unkeyed or keyed (rule R126). -/
theorem padAnswered_cases (a : CcRsp) (s : State) :
    (a.err = true ∧ padAnswered a s = enterResp .encryptionError 0#128 s) ∨
    (a.err = false ∧ padAnswered a s = enterResp .ok 0#128 (setKeyed a.data s)) := by
  unfold padAnswered
  cases a.err <;> simp

/-- The answer of a round ends the command with an error or with the result, or starts the next round
(rules R150, R151). -/
theorem rndAnswered_cases (a : CcRsp) (s : State) :
    (a.err = true ∧ rndAnswered a s = enterResp .encryptionError 0#128 s) ∨
    (a.err = false ∧ s.i + 1#8 < s.n ∧
      rndAnswered a s = { s with flip := nextFlip a s, i := s.i + 1#8, phase := .rndReq }) ∨
    (a.err = false ∧ ¬ s.i + 1#8 < s.n ∧
      rndAnswered a s = enterResp .ok (deliver s.fmt (s.buf ^^^ nextFlip a s)) s) := by
  unfold rndAnswered
  cases a.err
  · by_cases h : s.i + 1#8 < s.n <;> simp [h]
  · simp

/-- The core's answer to ENCRYPT fails without a valid key or where the core draws a failure, and else carries
the ciphertext (rule R107). -/
theorem encryptReply_cases (v : Bool) (ck b : Block) (d : Draw) :
    (v = true ∧ d.err = false ∧ encryptReply v ck b d = { err := false, data := Config.E ck b }) ∨
    ((v = false ∨ d.err = true) ∧ encryptReply v ck b d = { err := true, data := d.data }) := by
  unfold encryptReply
  cases v <;> cases d.err <;> simp

/-- A command word gives its header back (rule R70). -/
@[simp] theorem hdr_cmdWord (hdr : Header) (data : CmdData) : CmdWord.hdr (cmdWord hdr data) = hdr := by
  unfold CmdWord.hdr cmdWord
  exact BitVec.extractLsb'_append_eq_left

/-- A command word gives its data back (rule R70). -/
@[simp] theorem data_cmdWord (hdr : Header) (data : CmdData) : CmdWord.data (cmdWord hdr data) = data := by
  unfold CmdWord.data cmdWord
  exact BitVec.extractLsb'_append_eq_right

/-- What the block offers decodes to LOADKEY or ENCRYPT as its kind says (rules R81, R105). -/
theorem decodeCcReq_encodeCcReq (kind : Bool) (data : Block) :
    decodeCcReq (encodeCcReq kind data) = if kind then .encrypt data else .loadkey data := by
  have h1 : (encodeCcReq kind data).getLsbD 128 = kind := by
    rw [encodeCcReq, BitVec.getLsbD_append]
    simp
  have h2 : (encodeCcReq kind data).extractLsb' 0 128 = data := by
    unfold encodeCcReq
    exact BitVec.extractLsb'_append_eq_right
  unfold decodeCcReq
  rw [h1, h2]

end Sys2Proof.Machine
end

