-- ==== Sys2Proof/Laws/Step.lean ====
section
/-! SUPPORT. What a step can do, said once: six cases, which later proofs cite instead of unfolding the step. -/

namespace Sys2Proof.Machine

/-- No instruction of this block faults or is refused: `exec` always answers a next state. -/
theorem exec_isNext (i : Instr) (s : State) : ∃ t, exec i s = .next t := by
  cases i <;> exact ⟨_, rfl⟩

/-- A reset edge (rule R221). -/
theorem step_of_reset {s : State} (h : s.pins.rst = true) : step s = .next (advance (resetEdge s)) := by
  simp [step, h]

/-- A step at which a legal command word is accepted runs that command (rule R56). -/
theorem step_of_command {s : State} {i : Instr} {t : State} (h : cmdTaken s = true)
    (hd : decodeCmd s.pins.cmdHdr s.pins.cmdData = .ok i) (he : exec i s = .next t) :
    step s = .next (advance t) := by
  have hr : s.pins.rst = false := by
    unfold cmdTaken at h; revert h; cases s.pins.rst <;> simp
  simp [step, hr, fetch, h, hd, he, thenAdvance]

/-- A step at which an illegal command word is accepted answers ILLEGAL_CMD (rule R84). -/
theorem step_of_illegal {s : State} {e : DecodeError} (h : cmdTaken s = true)
    (hd : decodeCmd s.pins.cmdHdr s.pins.cmdData = .error e) :
    step s = .next (advance (acceptIllegal s)) := by
  have hr : s.pins.rst = false := by
    unfold cmdTaken at h; revert h; cases s.pins.rst <;> simp
  simp [step, hr, fetch, h, hd]

/-- A step at which the core takes a request runs that request (rule R104). -/
theorem step_of_request {s : State} {t : State} (h : reqTaken s = true)
    (he : exec (decodeCcReq (ccReqWord s)) s = .next t) : step s = .next (advance t) := by
  have hr : s.pins.rst = false := by
    unfold reqTaken at h; revert h; cases s.pins.rst <;> simp
  have hc : cmdTaken s = false := by
    unfold reqTaken ccReqValid at h; unfold cmdTaken cmdReady
    revert h; cases s.phase <;> simp
  simp [step, hr, fetch, hc, h, he, thenAdvance]

/-- A step with neither reset, command nor request reacts to an answer or a response, or does nothing. -/
theorem step_of_no_instr {s : State} (hr : s.pins.rst = false) (hc : cmdTaken s = false)
    (hq : reqTaken s = false) : step s = .next (advance (react s)) := by
  simp [step, hr, fetch, hc, hq]

/-- Everything one clock edge can do: a reset, a command accepted, an illegal word answered, a request taken by
the core, an answer taken, a response delivered, or a wait (rules R30, R42, R221). -/
theorem step_cases (s : State) :
    (s.pins.rst = true ∧ step s = .next (advance (resetEdge s))) ∨
    (∃ i t, cmdTaken s = true ∧ decodeCmd s.pins.cmdHdr s.pins.cmdData = .ok i ∧ exec i s = .next t ∧
      step s = .next (advance t)) ∨
    (∃ e, cmdTaken s = true ∧ decodeCmd s.pins.cmdHdr s.pins.cmdData = .error e ∧
      step s = .next (advance (acceptIllegal s))) ∨
    (∃ t, reqTaken s = true ∧ exec (decodeCcReq (ccReqWord s)) s = .next t ∧ step s = .next (advance t)) ∨
    (∃ a, ansTaken s = true ∧ s.answer = some a ∧
      step s = .next (advance (answered a { s with answer := none }))) ∨
    (rspTaken s = true ∧ step s = .next (advance (sendRsp s))) ∨
    (s.pins.rst = false ∧ handshake s = false ∧ step s = .next (advance s)) := by
  by_cases hr : s.pins.rst = true
  · exact .inl ⟨hr, step_of_reset hr⟩
  simp only [Bool.not_eq_true] at hr
  by_cases hc : cmdTaken s = true
  · cases hd : decodeCmd s.pins.cmdHdr s.pins.cmdData with
    | ok i =>
      obtain ⟨t, he⟩ := exec_isNext i s
      exact .inr (.inl ⟨i, t, hc, rfl, he, step_of_command hc hd he⟩)
    | error e => exact .inr (.inr (.inl ⟨e, hc, rfl, step_of_illegal hc hd⟩))
  by_cases hq : reqTaken s = true
  · obtain ⟨t, he⟩ := exec_isNext (decodeCcReq (ccReqWord s)) s
    exact .inr (.inr (.inr (.inl ⟨t, hq, he, step_of_request hq he⟩)))
  simp only [Bool.not_eq_true] at hc hq
  have hs := step_of_no_instr hr hc hq
  by_cases ha : ansTaken s = true
  · have hsome : s.answer.isSome = true := by
      unfold ansTaken ccRspValid at ha
      revert ha; cases s.answer <;> simp
    obtain ⟨a, hans⟩ := Option.isSome_iff_exists.mp hsome
    refine .inr (.inr (.inr (.inr (.inl ⟨a, ha, hans, ?_⟩))))
    rw [hs]; simp [react, ha, takeAnswer, hans]
  by_cases hp : rspTaken s = true
  · refine .inr (.inr (.inr (.inr (.inr (.inl ⟨hp, ?_⟩)))))
    rw [hs]; simp only [react, ha, hp]; rfl
  refine .inr (.inr (.inr (.inr (.inr (.inr ⟨hr, ?_, ?_⟩)))))
  · simp only [Bool.not_eq_true] at ha hp
    simp [handshake, hc, hq, ha, hp]
  · rw [hs]; simp only [react, ha, hp]; rfl

end Sys2Proof.Machine
end

