-- ==== Sys2Proof/Laws/PerInstr.lean ====
section
/-! SUPPORT. Statements made for every instruction, one lemma per constructor: the word an instruction encodes to
travels on the instruction's own channel and has, under the channel's table mask, the match value of its row in
`spec/opcode_table.json` (rules R72, R81). -/

namespace Sys2Proof.Laws.TableRow

/-- The encoded word is on the instruction's channel and matches its row of the opcode table. -/
def Statement (i : Instr) : Prop := (encode i).channel = i.channel ∧ (encode i).masked = i.tableMatch

/-- The masked header is the opcode in bits 31:28 (rule R72). -/
theorem masked_header (op : BitVec 4) (ver : Bool) (keylen nbits : BitVec 8) :
    encodeHeader op ver keylen nbits &&& headerMask = op.setWidth 32 <<< 28 := by
  apply BitVec.eq_of_getLsbD_eq
  intro i hi
  unfold encodeHeader headerMask
  simp only [BitVec.getLsbD_and, BitVec.getLsbD_append, BitVec.getLsbD_shiftLeft, BitVec.getLsbD_setWidth]
  interval_cases i <;> simp

/-- A command's word with opcode `op`. -/
theorem masked_command (op : BitVec 4) (ver : Bool) (keylen nbits : BitVec 8) (data : CmdData) :
    (ChannelWord.cmd (encodeHeader op ver keylen nbits) data).masked = (op.setWidth 32 <<< 28).toNat := by
  rw [ChannelWord.masked, masked_header]

/-- A cipher request's word under bit 128 (rule R81). -/
theorem masked_ccReq (kind : Bool) (data : Block) :
    (ChannelWord.ccReq (encodeCcReq kind data)).masked = if kind then 2 ^ 128 else 0 := by
  have h : encodeCcReq kind data &&& 0x100000000000000000000000000000000#129
      = BitVec.ofBool kind ++ 0#128 := by
    apply BitVec.eq_of_getLsbD_eq
    intro i hi
    have hm : (0x100000000000000000000000000000000#129) = BitVec.twoPow 129 128 := by decide
    rw [hm]
    unfold encodeCcReq
    simp only [BitVec.getLsbD_and, BitVec.getLsbD_append, BitVec.getLsbD_twoPow]
    by_cases h : i < 128
    · simp [h]; omega
    · have : i = 128 := by omega
      subst this; simp
  rw [ChannelWord.masked, h]
  cases kind <;> decide

theorem construct (keylen : BitVec 8) (key : KeyWord) : Statement (.construct keylen key) :=
  ⟨rfl, masked_command _ _ _ _ _⟩
theorem scramble (nbits : BitVec 8) (buffer : Block) : Statement (.scramble nbits buffer) :=
  ⟨rfl, masked_command _ _ _ _ _⟩
theorem scrambleIpv4 (addr4 : Addr4) : Statement (.scrambleIpv4 addr4) := ⟨rfl, masked_command _ _ _ _ _⟩
theorem scrambleIpv6 (addr6 : Block) : Statement (.scrambleIpv6 addr6) := ⟨rfl, masked_command _ _ _ _ _⟩
theorem scrambleIp (addr : IpAddr) : Statement (.scrambleIp addr) := by
  cases addr <;> exact ⟨rfl, masked_command _ _ _ _ _⟩
theorem drop : Statement .drop := ⟨rfl, masked_command _ _ _ _ _⟩
theorem loadkey (key : Block) : Statement (.loadkey key) := ⟨rfl, masked_ccReq _ _⟩
theorem encrypt (block : Block) : Statement (.encrypt block) := ⟨rfl, masked_ccReq _ _⟩

end Sys2Proof.Laws.TableRow
end

