-- ==== Sys2Proof/Machine/Reference.lean ====
section
/-! DEFINITION. Two closed instances of the open cipher `E`: the toy cipher (`92_eei_decisions.md` D32) and the
reference instance AES-128 (rule R113; the algorithm is from general knowledge, PRESUMED, assumption log 7). No
definition of the machine uses them: `Config.E` stays free. They let the pure data path be tested against the
spec's vectors. -/

namespace Sys2Proof.Machine.Reference

/-- `TOY_E(k, b) = ((b XOR k) * 0x9E3779B97F4A7C15F39CC0605CEDC835) mod 2^128`
(`92_eei_decisions.md` D32). -/
def toyE (k b : Block) : Block := (b ^^^ k) * 0x9E3779B97F4A7C15F39CC0605CEDC835#128

/-- The AES substitution table, entry 0 in the most significant byte (PRESUMED, FIPS-197). -/
def sboxTable : Nat :=
  0x637c777bf26b6fc53001672bfed7ab76ca82c97dfa5947f0add4a2af9ca472c0b7fd9326363ff7cc34a5e5f171d8311504c723c31896059a071280e2eb27b27509832c1a1b6e5aa0523bd6b329e32f8453d100ed20fcb15b6acbbe394a4c58cfd0efaafb434d338545f9027f503c9fa851a3408f929d38f5bcb6da2110fff3d2cd0c13ec5f974417c4a77e3d645d197360814fdc222a908846eeb814de5e0bdbe0323a0a4906245cc2d3ac629195e479e7c8376d8dd54ea96c56f4ea657aae08ba78252e1ca6b4c6e8dd741f4bbd8b8a703eb5664803f60e613557b986c11d9ee1f8981169d98e949b1e87e9ce5528df8ca1890dbfe6426841992d0fb054bb16

/-- One entry of the table. -/
def sbox (x : Nat) : Nat := (sboxTable >>> (8 * (255 - x))) % 256

/-- Multiplication by 2 in the field of AES. -/
def xtime (b : Nat) : Nat := if b < 128 then 2 * b else (2 * b) ^^^ 0x11b

/-- A block as its 16 bytes, byte 0 first (rule R8). -/
def bytesOf (v : Block) : List Nat := (List.range 16).map fun j => (v.toNat >>> (8 * (15 - j))) % 256

/-- The block of 16 bytes, byte 0 first (rule R8). -/
def blockOf (bytes : List Nat) : Block := BitVec.ofNat 128 (bytes.foldl (fun acc b => acc * 256 + b) 0)

/-- Bytewise XOR. -/
def xorBytes (a b : List Nat) : List Nat := List.zipWith (· ^^^ ·) a b

/-- ShiftRows after SubBytes, on the column-major state. -/
def subShift (s : List Nat) : List Nat :=
  (List.range 16).map fun j => sbox (s.getD ((j + 4 * (j % 4)) % 16) 0)

/-- MixColumns, column by column. -/
def mixColumns : List Nat → List Nat
  | a :: b :: c :: d :: rest =>
    let t := a ^^^ b ^^^ c ^^^ d
    (a ^^^ t ^^^ xtime (a ^^^ b)) :: (b ^^^ t ^^^ xtime (b ^^^ c)) :: (c ^^^ t ^^^ xtime (c ^^^ d))
      :: (d ^^^ t ^^^ xtime (d ^^^ a)) :: mixColumns rest
  | _ => []

/-- The next round key. -/
def nextKey (rcon : Nat) (k : List Nat) : List Nat :=
  let g := [sbox (k.getD 13 0) ^^^ rcon, sbox (k.getD 14 0), sbox (k.getD 15 0), sbox (k.getD 12 0)]
  let w0 := xorBytes (k.take 4) g
  let w1 := xorBytes ((k.drop 4).take 4) w0
  let w2 := xorBytes ((k.drop 8).take 4) w1
  let w3 := xorBytes (k.drop 12) w2
  w0 ++ w1 ++ w2 ++ w3

/-- The rounds after the first key addition: the state, the current round key, and the round constants still
to come; the last round mixes no columns. -/
def rounds : List Nat → List Nat → List Nat → List Nat
  | [], s, _ => s
  | [rcon], s, k => xorBytes (subShift s) (nextKey rcon k)
  | rcon :: rest, s, k => rounds rest (xorBytes (mixColumns (subShift s)) (nextKey rcon k)) (nextKey rcon k)

/-- AES-128 encryption of one block (rule R113; PRESUMED). -/
def aes128 (k b : Block) : Block :=
  blockOf (rounds [0x01, 0x02, 0x04, 0x08, 0x10, 0x20, 0x40, 0x80, 0x1b, 0x36]
    (xorBytes (bytesOf b) (bytesOf k)) (bytesOf k))

end Sys2Proof.Machine.Reference
end

