-- ==== Sys2Proof/Machine/Text.lean ====
section
/-! DEFINITION. The textual form of commands and responses (rule R88), as lists of characters. Text is for the
spec's examples only; no definition of the machine uses it. -/

namespace Sys2Proof.Machine.Text

/-- One hexadecimal digit. -/
def hexDigit (d : Nat) : Char := Char.ofNat (if d < 10 then 48 + d else 87 + d)

/-- `digits` hexadecimal digits of `v`, most significant first (rules R9, R88). -/
def hex : Nat → Nat → List Char
  | 0, _ => []
  | digits + 1, v => hexDigit (v / 16 ^ digits % 16) :: hex digits v

/-- The decimal digits of an 8-bit operand, without leading zeros. -/
def decimal (v : Nat) : List Char :=
  (if v < 100 then [] else [hexDigit (v / 100 % 10)]) ++ (if v < 10 then [] else [hexDigit (v / 10 % 10)])
    ++ [hexDigit (v % 10)]

/-- A mnemonic or operand name as characters. -/
abbrev word (s : String) : List Char := s.toList

/-- The text of a command (rule R88); the cipher requests have none. -/
def command : Instr → Option (List Char)
  | .construct keylen key =>
    some (word "CONSTRUCT len=" ++ decimal keylen.toNat ++ word ", key=" ++ hex 64 key.toNat)
  | .scramble nbits buffer =>
    some (word "SCRAMBLE n=" ++ decimal nbits.toNat ++ word ", buf=" ++ hex 32 buffer.toNat)
  | .scrambleIpv4 addr4 => some (word "SCRAMBLE_IPV4 addr=" ++ hex 8 addr4.toNat)
  | .scrambleIpv6 addr6 => some (word "SCRAMBLE_IPV6 addr=" ++ hex 32 addr6.toNat)
  | .scrambleIp (.v4 addr4) => some (word "SCRAMBLE_IP v=4, addr=" ++ hex 8 addr4.toNat)
  | .scrambleIp (.v6 addr6) => some (word "SCRAMBLE_IP v=6, addr=" ++ hex 32 addr6.toNat)
  | .drop => some (word "DROP")
  | .loadkey _ => none
  | .encrypt _ => none

/-- The text of any command word as it stands, `.word hdr=…, data=…` (rule R88). -/
def rawWord (hdr : Header) (data : CmdData) : List Char :=
  word ".word hdr=" ++ hex 8 hdr.toNat ++ word ", data=" ++ hex 64 data.toNat

/-- The name of a status (rule R190). -/
def statusName : Status → List Char
  | .ok => word "OK"
  | .keyInvalidLength => word "KEY_INVALID_LENGTH"
  | .keyRejected => word "KEY_REJECTED"
  | .encryptionError => word "ENCRYPTION_ERROR"
  | .nbitsRange => word "NBITS_RANGE"
  | .notKeyed => word "NOT_KEYED"
  | .illegalCmd => word "ILLEGAL_CMD"

/-- The text of a response, `-> <STATUS_NAME> <hex digits of rsp_data>` (rule R88). -/
def response (r : Rsp) : List Char := word "-> " ++ statusName r.status ++ word " " ++ hex 32 r.data.toNat

end Sys2Proof.Machine.Text
end

