-- ==== Sys2Proof/Tests/Slice0.lean ====
section
/-! SUPPORT. The model's own tests. Expected values are the spec's: the encodings of `30_encoding.md` written out bit
by bit, and the vectors and step tables of `95_test_vectors.md` (sections 1 to 6, programs P2, P3, P5). -/

namespace Sys2Proof.Tests

open Sys2Proof.Machine

/-- The state an outcome goes on with. -/
def after : Host.Outcome State Fault Refusal → State
  | .next t => t
  | .fault _ => State.reset
  | .refused _ => State.reset

/-- Pins that cooperate: the host takes a response, the core takes a request or answers. -/
def ready : Pins := { Pins.quiet with rspReady := true, ccReqReady := true, ccRspValid := true }

/-- The PAD of the toy key (`95_test_vectors.md` section 4). -/
def toyPad : Block := 0xdc5e252c555cd9b3d33beac8ecb5f11b#128

/-- A keyed block in IDLE with the toy key's PAD and CK. -/
def keyed : State :=
  { State.reset with keyed := true, pad := toyPad, ck := 0x000102030405060708090a0b0c0d0e0f#128, ckValid := true }

/-- A keyed block in RND_WAIT, the given answer pending and offered. -/
def inRound (i n : BitVec 8) (fmt : Bool) (buf flip : Block) (a : CcRsp) : State :=
  { keyed with phase := .rndWait, i := i, n := n, fmt := fmt, buf := buf, flip := flip, answer := some a, pins := ready }

/-- A state offered a command word. -/
def offered (s : State) (hdr : Header) (data : CmdData) (env : List Pins) : State :=
  { offerCmd hdr data s with env := env }

/-- The toy key as the `cmd_data` of CONSTRUCT. -/
def toyKey : CmdData := 0x000102030405060708090a0b0c0d0e0ff0e0d0c0b0a090807060504030201000#256

/-! ## Well-formedness: each channel refuses the other's instructions -/

theorem test_wellFormed_cmd : Instr.drop.wellFormedOn .cmd = true ∧ (Instr.loadkey 0#128).wellFormedOn .cmd = false ∧
    (Instr.encrypt 0#128).wellFormedOn .cmd = false := by decide
theorem test_wellFormed_ccReq : (Instr.encrypt 0#128).wellFormedOn .ccReq = true ∧
    Instr.drop.wellFormedOn .ccReq = false ∧ (Instr.construct 32#8 0#256).wellFormedOn .ccReq = false := by decide

/-! ## Decoding: OP RSV1 VER RSV0 KEYLEN NBITS, bit by bit (rule R71, `95_test_vectors.md` section 5) -/

theorem test_decode_construct :
    decodeCmd 0b0001_000_0_00000000_00100000_00000000#32 toyKey = .ok (.construct 32#8 toyKey) := by decide
theorem test_decode_scramble :
    decodeCmd 0b0010_000_0_00000000_00000000_10000001#32 0xdeadbeef00000000000000000000000000000005#256
      = .ok (.scramble 129#8 5#128) := by decide
theorem test_decode_scrambleIpv4 :
    decodeCmd 0b0011_000_0_00000000_00000000_00000000#32 0xdeadbeef800b4484#256
      = .ok (.scrambleIpv4 0x800b4484#32) := by decide
theorem test_decode_scrambleIpv6 :
    decodeCmd 0b0100_000_0_00000000_00000000_00000000#32 1#256 = .ok (.scrambleIpv6 1#128) := by decide
theorem test_decode_scrambleIp :
    decodeCmd 0b0101_000_0_00000000_00000000_00000000#32 0x20010db80000000000000000c029392b#256
      = .ok (.scrambleIp (.v4 0xc029392b#32)) ∧
    decodeCmd 0b0101_000_1_00000000_00000000_00000000#32 0x20010db80000000000000000c029392b#256
      = .ok (.scrambleIp (.v6 0x20010db80000000000000000c029392b#128)) := by decide
theorem test_decode_drop : decodeCmd 0b0110_000_1_00000000_11111111_11111111#32 7#256 = .ok .drop := by decide
theorem test_decode_ignored_fields :
    decodeCmd 0x21002a20#32 5#256 = decodeCmd 0x20000020#32 5#256 ∧
    decodeCmd 0x300000ff#32 5#256 = decodeCmd 0x30000000#32 5#256 := by decide
theorem test_decode_illegal :
    [0x00000000#32, 0x70000000#32, 0x80000000#32, 0xf0000000#32, 0x0000207f#32].map (decodeCmd · 0#256)
      = List.replicate 5 (.error .reservedOp) ∧
    [0xffffffff#32, 0x20010008#32, 0x22000008#32, 0x28000008#32, 0x10802000#32, 0x60ff0000#32].map (decodeCmd · 0#256)
      = List.replicate 6 (.error .reservedBits) := by decide
theorem test_decode_cmdWord :
    decodeTableWord 288 0x200000200000000000000000000000000000000000000000000000000000000000000005
      = some (.scramble 32#8 5#128) ∧
    decodeTableWord 288 0x600000000000000000000000000000000000000000000000000000000000000000000001 = some .drop := by
  decide
theorem test_decode_ccReq :
    decodeTableWord 136 0x01522178d33a4cf80130a5b1649907d10 = some (.loadkey 0x1522178d33a4cf80130a5b1649907d10#128) ∧
    decodeTableWord 136 0x1d8988f837979652762574c2d2a842202 = some (.encrypt 0xd8988f837979652762574c2d2a842202#128) ∧
    decodeTableWord 32 0x20000020 = some (.scramble 32#8 0#128) ∧ decodeTableWord 32 0x70000000 = none := by decide

/-! ## The data path (rules R8, R10, R11; `95_test_vectors.md` sections 1 to 4) -/

theorem test_himask : himask 0 = 0#128 ∧ himask 1 = 0x80000000000000000000000000000000#128 ∧
    himask 9 = 0xff800000000000000000000000000000#128 ∧ himask 32 = 0xffffffff000000000000000000000000#128 ∧
    himask 127 = 0xfffffffffffffffffffffffffffffffe#128 ∧ himask 128 = BitVec.allOnes 128 := by decide
theorem test_padded_V1_round_5 :
    padded 0x800b4484000000000000000000000000#128 0x8d511496a0446f67a691f2933b1f6735#128 5
      = 0x85511496a0446f67a691f2933b1f6735#128 := by decide
theorem test_key_bytes :
    bigEndian [21, 34, 23, 141, 51, 164, 207, 128, 19, 10, 91, 22, 73, 144, 125, 16, 216, 152, 143, 131, 121, 121, 101,
      39, 98, 87, 76, 45, 42, 132, 34, 2] = 0x1522178d33a4cf80130a5b1649907d10d8988f837979652762574c2d2a842202 ∧
    byte32 0x1522178d33a4cf80130a5b1649907d10d8988f837979652762574c2d2a842202#256 31 = 2#8 ∧
    byte16 0x1522178d33a4cf80130a5b1649907d10#128 0 = 21#8 ∧ byte4 0x800b4484#32 1 = 11#8 := by decide
theorem test_toy_n8 :
    scramble Reference.toyE 0x000102030405060708090a0b0c0d0e0f#128 toyPad 0xa5a5a5a5000000000000000000000000#128 8
      = 0x4da5a5a5000000000000000000000000#128 := by decide
theorem test_toy_n64 :
    scramble Reference.toyE 0x000102030405060708090a0b0c0d0e0f#128 toyPad 0x0123456789abcdeffedcba9876543210#128 64
      = 0x89d49a9975f5cdd4fedcba9876543210#128 := by decide +kernel
theorem test_aes_padding_block :
    Reference.aes128 0x1522178d33a4cf80130a5b1649907d10#128 0xd8988f837979652762574c2d2a842202#128
      = 0x8d511496a0446f67a691f2933b1f6735#128 := by decide +kernel
theorem test_aes_known_answer :
    Reference.aes128 0x000102030405060708090a0b0c0d0e0f#128 0x00112233445566778899aabbccddeeff#128
      = 0x69c4e0d86a7b0430d8cdb78070b4c55a#128 := by decide +kernel
theorem test_source_vector_V1 :
    deliver true (scramble Reference.aes128 0x1522178d33a4cf80130a5b1649907d10#128
      0x8d511496a0446f67a691f2933b1f6735#128 (embedV4 0x800b4484#32) 32) = 0x87f2b484#128 := by decide +kernel
theorem test_text :
    Text.command (.scrambleIp (.v4 0xc029392b#32)) = some "SCRAMBLE_IP v=4, addr=c029392b".toList ∧
    Text.response { status := .nbitsRange, data := 0x81#128 }
      = "-> NBITS_RANGE 00000000000000000000000000000081".toList := by decide

/-! ## One step at a time -/

/-- P2 command 3, step 1. -/
theorem test_construct_step :
    let t := after (step (offered keyed 0x10002000#32 toyKey []))
    t.phase = .keyReq ∧ t.keyed = false ∧ t.pad = 0#128 ∧ t.kreg = toyKey ∧ t.ckValid = true := by decide
/-- Rule R122's example. -/
theorem test_construct_length_31 :
    let t := after (step (offered keyed 0x10001f00#32 toyKey []))
    t.phase = .resp ∧ t.stat = .keyInvalidLength ∧ t.res = 0x1f#128 ∧ t.keyed = true ∧ t.pad = toyPad ∧
    t.kreg = 0#256 := by decide
/-- P2 command 3, step 2: the offered word, and the phase after it. -/
theorem test_loadkey_step :
    let s := { State.reset with phase := .keyReq, kreg := toyKey, pins := ready }
    ccReqWord s = 0x0000102030405060708090a0b0c0d0e0f#129 ∧ (after (step s)).phase = .keyWait ∧
    (after (step s)).kreg = toyKey ∧ (after (step s)).answer.isSome = true := by decide
/-- P2 command 3, step 4, offered word; and rule R107, first line: without a valid key the answer is an error. -/
theorem test_encrypt_step :
    let s := { State.reset with phase := .padReq, kreg := toyKey, pins := ready }
    ccReqWord s = 0x1f0e0d0c0b0a090807060504030201000#129 ∧ (after (step s)).phase = .padWait ∧
    (after (step s)).answer.map CcRsp.err = some true := by decide
theorem test_encrypt_draws_failure :
    let s := { keyed with phase := .rndReq, n := 8#8, pins := { ready with draw := { err := true, data := 5#128, ck := 0#128 } } }
    (after (step s)).answer = some { err := true, data := 5#128 } ∧ (after (step s)).phase = .rndWait := by decide
/-- P2 command 3, step 5. -/
theorem test_seed_answer_step :
    let s := { State.reset with phase := .padWait, kreg := toyKey, ckValid := true, pins := ready,
                                answer := some { err := false, data := toyPad } }
    let t := after (step s)
    t.phase = .resp ∧ t.keyed = true ∧ t.pad = toyPad ∧ t.kreg = 0#256 ∧ t.stat = .ok ∧ t.res = 0#128 ∧
    t.answer = none := by decide
/-- P3 command 6: LOADKEY answers err = 1. -/
theorem test_key_rejected_step :
    let s := { State.reset with phase := .keyWait, kreg := toyKey, pins := ready, answer := some { err := true, data := 9#128 } }
    let t := after (step s)
    t.phase = .resp ∧ t.stat = .keyRejected ∧ t.res = 0#128 ∧ t.kreg = 0#256 ∧ t.keyed = false := by decide
/-- P2 command 4, step 1. -/
theorem test_scramble_step :
    let t := after (step (offered keyed 0x20000002#32 0xa5a5a5a5000000000000000000000000#256 []))
    t.phase = .rndReq ∧ t.buf = 0xa5a5a5a5000000000000000000000000#128 ∧ t.n = 2#8 ∧ t.i = 0#8 ∧ t.fmt = false ∧
    ccReqWord t = 0x1dc5e252c555cd9b3d33beac8ecb5f11b#129 := by decide
/-- Section 6: NOT_KEYED wins over NBITS_RANGE, and ILLEGAL_CMD over both. -/
theorem test_scramble_priority :
    (after (step (offered State.reset 0x20000081#32 0#256 []))).stat = .notKeyed ∧
    (after (step (offered State.reset 0x20010081#32 0#256 []))).stat = .illegalCmd ∧
    (after (step (offered keyed 0x20000081#32 0#256 []))).stat = .nbitsRange ∧
    (after (step (offered keyed 0x20000081#32 0#256 []))).res = 0x81#128 := by decide
/-- P2 command 4, step 3. -/
theorem test_round_step :
    let t := after (step (inRound 0#8 2#8 false 0xa5a5a5a5000000000000000000000000#128 0#128
      { err := false, data := 0xe6cfedea1b6c2c100c19be8d63186f24#128 }))
    t.phase = .rndReq ∧ t.flip = 0x80000000000000000000000000000000#128 ∧ t.i = 1#8 ∧ t.n = 2#8 := by decide
/-- P2 command 4, step 5. -/
theorem test_last_round_step :
    let t := after (step (inRound 1#8 2#8 false 0xa5a5a5a5000000000000000000000000#128
      0x80000000000000000000000000000000#128 { err := false, data := 0xe6cfedea1b6c2c100c19be8d63186f24#128 }))
    t.phase = .resp ∧ t.stat = .ok ∧ t.res = 0x65a5a5a5000000000000000000000000#128 ∧ t.flip = 0#128 ∧
    t.i = 0#8 ∧ t.n = 0#8 := by decide
/-- P3 command 4: the ENCRYPT of round 2 answers err = 1. -/
theorem test_failing_round_step :
    let t := after (step (inRound 2#8 8#8 false 0xa5a5a5a5000000000000000000000000#128
      0xc0000000000000000000000000000000#128 { err := true, data := 1#128 }))
    t.phase = .resp ∧ t.stat = .encryptionError ∧ t.res = 0#128 ∧ t.keyed = true ∧ t.pad = toyPad := by decide
/-- P2 command 7, step 1: garbage above bit 31. -/
theorem test_scrambleIpv4_step :
    let t := after (step (offered keyed 0x30000000#32 0xdeadbeef00000000a5a5a5a5#256 []))
    t.phase = .rndReq ∧ t.buf = 0xa5a5a5a5000000000000000000000000#128 ∧ t.n = 32#8 ∧ t.fmt = true := by decide
/-- P2 command 7, steps 64 and 65. -/
theorem test_scrambleIpv4_last_round :
    let s := inRound 31#8 32#8 true 0xa5a5a5a5000000000000000000000000#128 0xe8f6007e000000000000000000000000#128
      { err := false, data := 0xeda946c21b6c2c100c19be8d63186f24#128 }
    padded s.buf s.pad 31 = 0xa5a5a5a4555cd9b3d33beac8ecb5f11b#128 ∧ (after (step s)).res = 0x4d53a5da#128 ∧
    (after (step s)).phase = .resp := by decide
/-- Section 3.6: NBITS = 255 is ignored. -/
theorem test_scrambleIpv6_step :
    let t := after (step (offered keyed 0x400020ff#32 1#256 []))
    t.phase = .rndReq ∧ t.buf = 1#128 ∧ t.n = 128#8 ∧ t.fmt = false := by decide
theorem test_scrambleIp_step :
    let t4 := after (step (offered keyed 0x50000000#32 0x20010db80000000000000000c029392b#256 []))
    let t6 := after (step (offered keyed 0x51000000#32 0x20010db8000000000000000000000001#256 []))
    t4.buf = 0xc029392b000000000000000000000000#128 ∧ t4.n = 32#8 ∧ t4.fmt = true ∧
    t6.buf = 0x20010db8000000000000000000000001#128 ∧ t6.n = 128#8 ∧ t6.fmt = false := by decide
/-- P2 command 6. -/
theorem test_scramble_zero_bits :
    let t := after (step (offered keyed 0x20000000#32 0xa5a5a5a5000000000000000000000000#256 []))
    t.phase = .resp ∧ t.stat = .ok ∧ t.res = 0xa5a5a5a5000000000000000000000000#128 := by decide
/-- P1 command 7: DROP leaves CK and CK_VALID. -/
theorem test_drop_step :
    let t := after (step (offered keyed 0x60000000#32 0#256 []))
    t.phase = .resp ∧ t.stat = .ok ∧ t.keyed = false ∧ t.pad = 0#128 ∧ t.ckValid = true ∧ t.ck = keyed.ck := by decide
/-- P2 command 11. -/
theorem test_illegal_step :
    let t := after (step (offered keyed 0x70000000#32 0#256 []))
    t.phase = .resp ∧ t.stat = .illegalCmd ∧ t.keyed = true ∧ t.pad = toyPad := by decide
/-- P2 command 4, step 6. -/
theorem test_response_step :
    let s := { keyed with phase := .resp, stat := .nbitsRange, res := 0x81#128, pins := ready }
    delivered s = some { status := .nbitsRange, data := 0x81#128 } ∧
    (Rsp.mk .nbitsRange 0x81#128).word = 0x400000000000000000000000000000081#132 ∧
    (after (step s)).phase = .idle ∧ (after (step s)).stat = .ok ∧ (after (step s)).res = 0#128 := by decide
/-- P5: `rst` at an edge in the middle of a SCRAMBLE. -/
theorem test_reset_edge :
    let s := { keyed with phase := .rndWait, i := 1#8, n := 8#8, flip := 0x80000000000000000000000000000000#128,
                          buf := 0xa5a5a5a5000000000000000000000000#128, answer := some { err := false, data := 1#128 },
                          pins := { ready with rst := true } }
    after (step s) = State.reset := by decide
theorem test_first_step_after_reset :
    after (step (State.reset.withFetchWord 32 0x60000000)) = after (exec .drop { State.reset with pins := Pins.quiet }) ∧
    (after (step (State.reset.withFetchWord 136 5))).phase = .keyWait := by decide

/-! ## Every hypothesis can be met: one witness for each statement that has any -/

/-- A keyed state that meets the whole invariant: PAD is a Padding Block under the free cipher. -/
def keyedInvariant : State := { keyed with pad := Config.E keyed.ck 5#128 }

/-- In round 127 of 128, the free cipher's answer pending. -/
def roundInvariant : State :=
  { keyedInvariant with
    phase := .rndWait, i := 127#8, n := 128#8, buf := 1#128, pins := ready,
    answer := some { err := false, data := Config.E keyed.ck (padded 1#128 keyedInvariant.pad 127) } }

/-- In PAD_WAIT of a CONSTRUCT, the free cipher's answer pending. -/
def seedInvariant : State :=
  { State.reset with
    phase := .padWait, kreg := toyKey, ck := cipherKey toyKey, ckValid := true, pins := ready,
    answer := some { err := false, data := Config.E (cipherKey toyKey) (paddingSeed toyKey) } }

theorem keyedInvariant_inv : Inv keyedInvariant := ⟨by decide, trivial, trivial, fun _ => ⟨5#128, rfl⟩⟩
theorem roundInvariant_inv : Inv roundInvariant :=
  ⟨by decide, trivial, fun a h _ => by cases h; rfl, fun _ => ⟨5#128, rfl⟩⟩
theorem seedInvariant_inv : Inv seedInvariant :=
  ⟨by decide, ⟨rfl, rfl⟩, fun a h _ => by cases h; rfl, fun h => by cases h⟩

/-- A keyed block in IDLE offered a command, the environment cooperating for the next `k` edges. -/
def willing (hdr : Header) (data : CmdData) (k : Nat) : State := offered keyed hdr data (List.replicate k ready)

/-- As `willing`, with a failing draw at the `j`-th request. -/
def failing (hdr : Header) (data : CmdData) (j : Nat) : State :=
  offered keyed hdr data
    (List.replicate (2 * j) ready ++ [{ ready with draw := { err := true, data := 0#128, ck := 0#128 } }]
      ++ List.replicate 2 ready)

theorem witness_DecodingAnEncodedInstructionGivesItBack :
    Instr.drop.wellFormedOn .cmd = true ∧ (Instr.encrypt 1#128).wellFormedOn .ccReq = true := by decide
theorem witness_MaskedHeaderSelectsTheCommand : (Instr.scramble 129#8 0#128).wellFormedOn .cmd = true := by decide
theorem witness_IgnoredBitsHaveNoEffectOnDecoding :
    0x20000020#32 &&& usedHeaderBits 0x20000020#32 = 0x21002a20#32 &&& usedHeaderBits 0x20000020#32 ∧
    (5#256 &&& usedDataBits 0x20000020#32 = (0xffffffff#128 ++ 5#128 : CmdData) &&& usedDataBits 0x20000020#32) := by
  decide
theorem witness_DecodedInstructionBelongsToItsChannel :
    decode (.cmd 0x60000000#32 0#256) = .ok .drop ∧ decode (.ccReq 5#129) = .ok (.loadkey 5#128) := by decide
theorem witness_StepRunsTheFetchedInstruction :
    let s := willing 0x60000000#32 0#256 0
    let q := { keyed with pins := ready }
    s.pins.rst = false ∧ s.phase = .idle ∧ s.pins.cmdValid = true ∧
    decodeCmd s.pins.cmdHdr s.pins.cmdData = .ok .drop ∧
    q.pins.rst = false ∧ q.pins.ccReqReady = true ∧ q.answer = none ∧
    { q with phase := .keyReq }.phase = .keyReq ∧ { q with phase := .padReq }.phase = .padReq ∧
    { q with phase := .rndReq }.phase = .rndReq := by decide
theorem witness_StepRunsTheRowPlacedForIt :
    decodeTableWord 32 0x100020ff = some (.construct 32#8 0#256) ∧
    decodeTableWord 136 0x100000000000000000000000000000005 = some (.encrypt 5#128) := by decide
theorem witness_WithheldHandshakeLeavesTheBlockWaiting :
    (∀ j, j < 3 → (keyed.pinsAt j).withholds keyed.phase = true) ∧
    (∀ j, j < 3 → (({ keyed with phase := .rndReq } : State).pinsAt j).withholds .rndReq = true) ∧
    (∀ j, j < 3 → (({ keyed with phase := .padWait } : State).pinsAt j).withholds .padWait = true) ∧
    (∀ j, j < 3 → (({ keyed with phase := .resp } : State).pinsAt j).withholds .resp = true) := by decide
theorem witness_CommandWiresMatterOnlyAtTheirHandshake :
    roundInvariant.phase ≠ .idle ∧ keyed.pins.cmdValid = false := by decide
theorem witness_IllegalWordIsAnsweredAtOnce :
    [0x12002000#32, 0x10802000#32, 0x0000207f#32, 0x70000000#32, 0xf0000000#32].all (fun h =>
      let s := willing h 0#256 0
      !s.pins.rst && s.phase == .idle && s.pins.cmdValid &&
      decide (s.pins.cmdHdr.toNat / 2 ^ 25 % 8 ≠ 0 ∨ s.pins.cmdHdr.toNat / 2 ^ 16 % 256 ≠ 0 ∨
        s.pins.cmdHdr.toNat / 2 ^ 28 = 0 ∨ 7 ≤ s.pins.cmdHdr.toNat / 2 ^ 28)) = true := by decide
theorem witness_ConstructWithWrongLengthIsRejected : 0#8 ≠ 32#8 ∧ 31#8 ≠ 32#8 ∧ 33#8 ≠ 32#8 ∧ 255#8 ≠ 32#8 := by decide
theorem witness_TakenRequestMovesTheBlockToWait :
    ready.rst = false ∧ ready.ccReqReady = true ∧ ({ keyed with phase := .keyReq, pins := ready } : State).answer = none ∧
    ({ keyed with phase := .padReq, pins := ready } : State).phase = .padReq ∧
    ({ keyed with phase := .rndReq, pins := ready } : State).phase = .rndReq := by decide
theorem witness_LoadkeyAnswerRejectsOrGoesOn_invariant :
    Inv { State.reset with phase := .keyWait, answer := some { err := true, data := 1#128 }, pins := ready } :=
  ⟨by decide, (fun a h e => by cases h; cases e), trivial, fun h => by cases h⟩
theorem witness_LoadkeyAnswerRejectsOrGoesOn :
    let s (e : Bool) := { State.reset with phase := .keyWait, answer := some { err := e, data := 1#128 }, pins := ready }
    (s true).pins.rst = false ∧ (s true).phase = .keyWait ∧ (s true).answer = some { err := true, data := 1#128 } ∧
    (s false).answer = some { err := false, data := 1#128 } ∧ (s true).pins.ccRspValid = true := by decide
/-- As `seedInvariant`, the core having drawn a failure. -/
def seedFailing : State := { seedInvariant with answer := some { err := true, data := 1#128 } }
theorem seedFailing_inv : Inv seedFailing :=
  ⟨by decide, ⟨rfl, rfl⟩, (fun a h e => by cases h; cases e), fun h => by cases h⟩
theorem witness_SeedAnswerKeysTheBlock_failing :
    Inv seedFailing ∧ seedFailing.pins.rst = false ∧ seedFailing.phase = .padWait ∧
    seedFailing.answer = some { err := true, data := 1#128 } ∧ seedFailing.pins.ccRspValid = true :=
  ⟨seedFailing_inv, rfl, rfl, rfl, rfl⟩
theorem witness_SeedAnswerKeysTheBlock :
    Inv seedInvariant ∧ seedInvariant.pins.rst = false ∧ seedInvariant.phase = .padWait ∧
    seedInvariant.answer = some { err := false, data := Config.E (cipherKey toyKey) (paddingSeed toyKey) } ∧
    seedInvariant.pins.ccRspValid = true := ⟨seedInvariant_inv, rfl, rfl, rfl, rfl⟩
theorem witness_ConstructRunsToItsResponse :
    let s := willing 0x10002000#32 toyKey 5
    s.pins.rst = false ∧ s.phase = .idle ∧ s.answer = none ∧ s.pins.cmdValid = true ∧
    decodeCmd s.pins.cmdHdr s.pins.cmdData = .ok (.construct 32#8 toyKey) ∧ s.cooperates 5 = true ∧
    (s.drawAt 1).err = false ∧ ((failing 0x10002000#32 toyKey 1).drawAt 1).err = true ∧
    (failing 0x10002000#32 toyKey 1).cooperates 5 = true := by decide
theorem witness_ScrambleOnUnkeyedBlockIsNotKeyed :
    State.reset.keyed = false ∧ ∃ nbits buffer, Instr.scramble 129#8 0#128 = .scramble nbits buffer :=
  ⟨rfl, _, _, rfl⟩
theorem witness_BitCountAbove128IsRejected :
    keyed.keyed = true ∧ 128 < (129#8).toNat ∧ 128 < (255#8).toNat ∧
    ∃ ip, Instr.scrambleIp (.v6 0#128) = .scrambleIp ip := ⟨rfl, by decide, by decide, _, rfl⟩
theorem witness_ZeroBitScrambleReturnsItsInput : keyed.keyed = true := rfl
theorem witness_ScrambleStartsItsRounds :
    keyed.keyed = true ∧ 1 ≤ (1#8).toNat ∧ (1#8).toNat ≤ 128 ∧ 1 ≤ (128#8).toNat ∧ (128#8).toNat ≤ 128 := by decide
theorem witness_ScrambleIpv4EmbedsAndStarts : keyed.keyed = true := rfl
theorem witness_ScrambleIpv6StartsItsRounds : keyed.keyed = true := rfl
theorem witness_ScrambleIpDispatchesOnTheVersion : keyed.keyed = true := rfl
theorem witness_EncryptAnswersTheCiphertextOrFails :
    State.reset.ckValid = false ∧ keyed.ckValid = true ∧ keyed.pins.draw.err = false ∧
    ({ ready with draw := { err := true, data := 0#128, ck := 0#128 } } : Pins).draw.err = true := by decide
theorem witness_SuccessfulRoundAccumulatesItsFlipBit :
    [(0#8, 1#8), (0#8, 128#8), (126#8, 128#8), (127#8, 128#8)].all (fun p =>
      let s := inRound p.1 p.2 true 0#128 0#128 { err := false, data := 1#128 }
      !s.pins.rst && s.phase == .rndWait && s.answer == some { err := false, data := 1#128 } && s.pins.ccRspValid &&
      decide (s.i.toNat < s.n.toNat)) = true := by decide
theorem witness_FailingRoundDeliversNothing :
    let s := inRound 2#8 8#8 false 0#128 0#128 { err := true, data := 1#128 }
    s.pins.rst = false ∧ s.phase = .rndWait ∧ s.answer = some { err := true, data := 1#128 } ∧
    s.pins.ccRspValid = true := by decide
theorem witness_ResponseIsDeliveredAndTheBlockIdles :
    let s := { keyed with phase := .resp, pins := ready }
    s.pins.rst = false ∧ s.phase = .resp ∧ s.pins.rspReady = true ∧ Pins.quiet.rspReady = false := by decide
theorem witness_ResetEdgeOverridesEverything : ({ ready with rst := true } : Pins).rst = true := rfl
theorem witness_EveryStepKeepsTheInvariant :
    (∃ t, Inv keyedInvariant ∧ step keyedInvariant = .next t) ∧
    (∃ t, Inv roundInvariant ∧ step roundInvariant = .next t) ∧
    (∃ t, Inv seedInvariant ∧ step seedInvariant = .next t) :=
  ⟨⟨_, keyedInvariant_inv, rfl⟩, ⟨_, roundInvariant_inv, rfl⟩, ⟨_, seedInvariant_inv, rfl⟩⟩
theorem witness_IdleBlockHoldsOnlyPadAndKeyed : Inv keyedInvariant ∧ keyedInvariant.phase = .idle :=
  ⟨keyedInvariant_inv, rfl⟩
theorem witness_OnlyConstructDropAndResetTouchTheKey :
    (∃ t, step (willing 0x60000000#32 0#256 0) = .next t) ∧ (∃ t, step seedInvariant = .next t) ∧
    (∃ t, step roundInvariant = .next t) := ⟨⟨_, rfl⟩, ⟨_, rfl⟩, ⟨_, rfl⟩⟩
theorem witness_ScramblingLeavesNoTrace :
    let s := { offerCmd 0x20000000#32 7#256 keyedInvariant with env := [ready] }
    Inv s ∧ cmdTaken s = true ∧ decodeCmd s.pins.cmdHdr s.pins.cmdData = .ok (.scramble 0#8 7#128) ∧
    (∀ j, j < 2 → (s.pinsAt j).rst = false) ∧ (trace accepted 2 s).length = 1 ∧ ∃ t, run 2 s = .next t ∧ t.phase = .idle :=
  ⟨⟨by decide, trivial, trivial, fun _ => ⟨5#128, rfl⟩⟩, rfl, by decide, by decide, rfl, _, rfl, rfl⟩
theorem witness_EveryCommandGetsOneResponse :
    let s := willing 0x60000000#32 0#256 3
    (∀ j, j < 3 → (s.pinsAt j).rst = false) ∧ ∃ t, run 3 s = .next t := ⟨by decide, _, rfl⟩
theorem witness_EveryCipherRequestGetsOneAnswer :
    let s := willing 0x20000001#32 0#256 3
    (∀ j, j < 3 → (s.pinsAt j).rst = false) ∧ pendingInv s = true ∧ ∃ t, run 3 s = .next t :=
  ⟨by decide, by decide, _, rfl⟩
theorem witness_SecretsReachNoResponse :
    sameButSecrets (willing 0x20000001#32 0#256 3) { willing 0x20000001#32 0#256 3 with pad := 1#128, ck := 2#128 } ∧
    sameButSecrets (inRound 0#8 1#8 false 0#128 0#128 { err := false, data := 1#128 })
      (inRound 0#8 1#8 false 0#128 0#128 { err := false, data := 2#128 }) ∧
    (let s := { keyed with phase := .rndReq, n := 1#8 }
     sameButSecrets s { s with pad := 1#128 } ∧ reqTaken s = false ∧
     sameButSecrets { s with pins := { ready with rst := true } }
       { s with pad := 1#128, pins := { ready with rst := true } } ∧
     reqTaken { s with pins := { ready with rst := true } } = false) := by
  unfold sameButSecrets; decide
theorem witness_PhaseLevelRunsTheTransaction :
    let s := willing 0x20000002#32 0xa5a5a5a5000000000000000000000000#256 5
    s.pins.rst = false ∧ s.phase = .idle ∧ s.answer = none ∧ s.pins.cmdValid = true ∧
    (txnCommand s.pins.cmdHdr s.pins.cmdData s.drawAt s.arch).requests.length = 2 ∧ s.cooperates (2 * 2 + 1) = true :=
  ⟨rfl, rfl, rfl, rfl, rfl, by decide⟩
theorem witness_ScrambleCommandsDeliverTheTransform :
    let s0 := willing 0x20000000#32 7#256 1
    let s4 := willing 0x30000000#32 0x800b4484#256 65
    let s6 := willing 0x51000000#32 1#256 257
    decodeCmd s0.pins.cmdHdr s0.pins.cmdData = .ok (.scramble (BitVec.ofNat 8 0) 7#128) ∧ s0.cooperates 1 = true ∧
    decodeCmd s4.pins.cmdHdr s4.pins.cmdData = .ok (.scrambleIpv4 0x800b4484#32) ∧ s4.cooperates 65 = true ∧
    decodeCmd s6.pins.cmdHdr s6.pins.cmdData = .ok (.scrambleIp (.v6 1#128)) ∧ s6.cooperates 257 = true ∧
    (∀ j, j < 128 → (s6.drawAt j).err = false) ∧ s6.keyed = true ∧ s6.ckValid = true ∧ s6.pins.rst = false ∧
    s6.phase = .idle ∧ s6.answer = none ∧ s6.pins.cmdValid = true := by decide +kernel
theorem witness_FirstFailingRoundEndsTheCommand :
    let s := failing 0x20000008#32 0#256 2
    s.pins.rst = false ∧ s.phase = .idle ∧ s.answer = none ∧ s.pins.cmdValid = true ∧
    decodeCmd s.pins.cmdHdr s.pins.cmdData = .ok (.scramble (BitVec.ofNat 8 8) 0#128) ∧ s.keyed = true ∧
    s.ckValid = true ∧ s.cooperates (2 * 2 + 3) = true ∧ (∀ p, p < 2 → (s.drawAt p).err = false) ∧
    (s.drawAt 2).err = true := by decide
theorem witness_CooperatingEnvironmentBringsTheBlockToIdle :
    Inv { roundInvariant with env := List.replicate 256 ready } ∧ roundInvariant.pins.cooperates = true ∧
    ({ roundInvariant with env := List.replicate 256 ready } : State).cooperates 256 = true :=
  ⟨⟨by decide, trivial, fun a h _ => by cases h; rfl, fun _ => ⟨5#128, rfl⟩⟩, by decide, by decide +kernel⟩
theorem witness_ResultPositionByPosition : 32 ≤ 128 ∧ 31 < 128 ∧ 31 < 32 ∧ 32 ≤ 32 := by decide
theorem witness_PrefixMaskIsOnesThenZeros : 0 ≤ 128 ∧ 128 ≤ 128 := by decide
theorem witness_FirstFlipBitIsIndependentOfTheAddress : 1 ≤ 1 ∧ 1 ≤ 128 := by decide
theorem witness_SharedLeadingBitsArePreserved :
    32 ≤ 128 ∧ 31 ≤ 32 ∧ (∀ p, p < 31 → pos (embedV4 0x800b4484#32) p = pos (embedV4 0x800b4485#32) p) ∧
    pos (embedV4 0x800b4484#32) 31 ≠ pos (embedV4 0x800b4485#32) 31 := by decide
theorem witness_TransformIsABijection : 128 ≤ 128 := by decide
theorem witness_BitCountSelectsTheLeadingBits : 33 ≤ 128 ∧ 128 ≤ 128 ∧ 32 < 33 ∧ 32 < 128 := by decide
theorem witness_TypedCommandsAgreeWithScramble :
    keyed.arch.keyed = true ∧ keyed.arch.ckValid = true ∧ (∀ j : Nat, ((fun _ => Pins.quiet.draw) j).err = false) ∧
    (∀ p, p < 31 → (0x800b4484#32).getMsbD p = (0x800b4485#32).getMsbD p) :=
  ⟨rfl, rfl, fun _ => rfl, by decide⟩

end Sys2Proof.Tests
end

section
/-! Byte strings and the prefix mask as numbers (rules R8, R10, R52). -/

namespace Sys2Proof.Machine

/-- Reading one byte more shifts the number read so far up by one byte (rule R52). -/
theorem bigEndian_concat (bytes : List (BitVec 8)) (b : BitVec 8) :
    bigEndian (bytes ++ [b]) = bigEndian bytes * 256 + b.toNat := by
  simp [bigEndian]

/-- The first `k` bytes of a vector of any width are its number without the bits below them. The bytes
that are not read yet are the quotient's divisor, which makes the induction on `k` go through. -/
theorem bigEndian_leading_bytes {w : Nat} (v : BitVec w) (k : Nat) (hk : 8 * k ≤ w) :
    bigEndian ((List.range k).map fun j => v.extractLsb' (w - 8 - 8 * j) 8) = v.toNat / 2 ^ (w - 8 * k) := by
  induction k with
  | zero => simp [bigEndian, Nat.div_eq_of_lt v.isLt]
  | succ k ih =>
    have hshift : w - 8 * k = (w - 8 - 8 * k) + 8 := by omega
    have hrest : w - 8 * (k + 1) = w - 8 - 8 * k := by omega
    rw [List.range_succ, List.map_append, List.map_singleton, bigEndian_concat, ih (by omega),
      BitVec.extractLsb'_toNat, Nat.shiftRight_eq_div_pow, hshift, hrest, Nat.pow_add, ← Nat.div_div_eq_div_mul]
    exact Nat.div_add_mod' _ 256

/-- All the bytes of a vector of `n` bytes are its number. -/
theorem bigEndian_all_bytes {n : Nat} (v : BitVec (8 * n)) :
    bigEndian ((List.range n).map fun j => v.extractLsb' (8 * n - 8 - 8 * j) 8) = v.toNat := by
  simpa using bigEndian_leading_bytes v n le_rfl

/-- The case of `himask` at 0 is the shift by the whole width, so the prefix mask is one shift for every `i`. -/
theorem himask_eq_shiftLeft (i : Nat) : himask i = BitVec.allOnes 128 <<< (128 - i) := by
  by_cases hi : i = 0
  · subst hi; decide
  · simp [himask, hi]

/-- Ones shifted up by `k` within `w` bits: `2^w - 2^k`, also when every one is shifted out. -/
theorem toNat_allOnes_shiftLeft {w k : Nat} (hk : k ≤ w) :
    (BitVec.allOnes w <<< k).toNat = 2 ^ w - 2 ^ k := by
  have hpos : 0 < 2 ^ k := Nat.two_pow_pos k
  have hle : 2 ^ k ≤ 2 ^ w := Nat.pow_le_pow_right (by decide) hk
  have hsplit : (2 ^ w - 1) * 2 ^ k = (2 ^ w - 2 ^ k) + 2 ^ w * (2 ^ k - 1) := by
    zify [hle, hpos, Nat.one_le_two_pow (n := w)]
    ring
  rw [BitVec.toNat_shiftLeft, BitVec.toNat_allOnes, Nat.shiftLeft_eq, hsplit, Nat.add_mul_mod_self_left,
    Nat.mod_eq_of_lt (by omega)]

/-- Settles O7: a 16-byte buffer, a 32-byte key and a 4-byte address are three widths of one fact. -/
theorem bytesAreBigEndian : Obligations.BytesAreBigEndian :=
  ⟨bigEndian_all_bytes (n := 16), bigEndian_all_bytes (n := 32), bigEndian_all_bytes (n := 4)⟩

/-- Settles O51: the prefix mask is a shift of all ones by `128 - i`, which is never above the width. -/
theorem prefixMaskIsOnesThenZeros : Obligations.PrefixMaskIsOnesThenZeros := by
  intro i _
  rw [himask_eq_shiftLeft, toNat_allOnes_shiftLeft (Nat.sub_le 128 i)]

end Sys2Proof.Machine
end

section
/-! Ports and channels by phase (rules R29, R51, R58, R59, R105), and the response word (rules R70, R78, R190). -/

namespace Sys2Proof.Machine

/-! ## What each port and each handshake asks for -/

@[simp] theorem cmdReady_iff (s : State) : cmdReady s = true ↔ s.phase = .idle := beq_iff_eq

@[simp] theorem rspValid_iff (s : State) : rspValid s = true ↔ s.phase = .resp := beq_iff_eq

@[simp] theorem ccReqValid_iff (s : State) :
    ccReqValid s = true ↔ s.phase = .keyReq ∨ s.phase = .padReq ∨ s.phase = .rndReq := by
  simp [ccReqValid, or_assoc]

@[simp] theorem ccRspReady_iff (s : State) :
    ccRspReady s = true ↔ s.phase = .keyWait ∨ s.phase = .padWait ∨ s.phase = .rndWait := by
  simp [ccRspReady, or_assoc]

/-- The CMD handshake (rules R56, R59). -/
theorem cmdTaken_iff (s : State) :
    cmdTaken s = true ↔ s.pins.rst = false ∧ s.phase = .idle ∧ s.pins.cmdValid = true := by
  simp [cmdTaken]

/-- The CC request handshake (rules R59, R104). -/
theorem reqTaken_iff (s : State) :
    reqTaken s = true ↔ s.pins.rst = false ∧ (s.phase = .keyReq ∨ s.phase = .padReq ∨ s.phase = .rndReq) ∧
      s.pins.ccReqReady = true ∧ s.answer = none := by
  simp [reqTaken, ccReqReady]

/-- The CC response handshake (rules R59, R104). -/
theorem ansTaken_iff (s : State) :
    ansTaken s = true ↔ s.pins.rst = false ∧ (s.phase = .keyWait ∨ s.phase = .padWait ∨ s.phase = .rndWait) ∧
      s.pins.ccRspValid = true ∧ s.answer.isSome = true := by
  simp [ansTaken, ccRspValid]

/-- The RSP handshake (rules R58, R59). -/
theorem rspTaken_iff (s : State) :
    rspTaken s = true ↔ s.pins.rst = false ∧ s.phase = .resp ∧ s.pins.rspReady = true := by
  simp [rspTaken]

/-- Where each of four transfers needs its channel to be served, no more words cross than channels are served
(rule R59). -/
theorem count_true_le_of_imp {a b c d a' b' c' d' : Bool} (ha : a' = true → a = true) (hb : b' = true → b = true)
    (hc : c' = true → c = true) (hd : d' = true → d = true) :
    [a', b', c', d'].count true ≤ [a, b, c, d].count true := by
  revert a b c d a' b' c' d'
  decide

/-- Each phase serves exactly one of the four channels (rules R29, R51). -/
theorem channelsServed_count (s : State) :
    [cmdReady s, rspValid s, ccReqValid s, ccRspReady s].count true = 1 := by
  unfold cmdReady rspValid ccReqValid ccRspReady
  cases s.phase <;> decide

/-! ## The response word and the phase values -/

/-- Two fields side by side as one number, the first in the high bits (rule R70). -/
theorem toNat_append_eq_mul_add {m n : Nat} (x : BitVec m) (y : BitVec n) :
    (x ++ y).toNat = x.toNat * 2 ^ n + y.toNat := by
  rw [BitVec.toNat_append, ← Nat.shiftLeft_add_eq_or_of_lt y.isLt, Nat.shiftLeft_eq]

/-- The status is the part of the response word above the 128 data bits (rules R70, R78). -/
theorem Rsp.word_toNat_div (r : Rsp) : r.word.toNat / 2 ^ 128 = r.status.code.toNat := by
  have hdata : r.data.toNat < 2 ^ 128 := r.data.isLt
  rw [Rsp.word, toNat_append_eq_mul_add]
  omega

/-- No status code is above 6 (rule R190). -/
theorem Status.code_toNat_le (st : Status) : st.code.toNat ≤ 6 := by
  cases st <;> decide

/-- The phase of a 3-bit value: the table of rule R29 read from right to left. -/
def Phase.ofCode (c : BitVec 3) : Phase :=
  match c.toNat with
  | 0 => .idle
  | 1 => .keyReq
  | 2 => .keyWait
  | 3 => .padReq
  | 4 => .padWait
  | 5 => .rndReq
  | 6 => .rndWait
  | _ => .resp

@[simp] theorem Phase.ofCode_code (p : Phase) : Phase.ofCode p.code = p := by cases p <;> rfl

@[simp] theorem Phase.code_ofCode (c : BitVec 3) : (Phase.ofCode c).code = c := by
  revert c
  decide

/-! ## The statements about ports and codes -/

/-- Settles O12: the phase decides the channel served, and a transfer happens only on a channel served. -/
theorem eachPhaseServesOneChannel : Obligations.EachPhaseServesOneChannel := by
  intro s
  refine ⟨channelsServed_count s, ?_, rfl, rfl, toNat_append_eq_mul_add _ _, ?_⟩
  · rw [← channelsServed_count s]
    refine count_true_le_of_imp ?_ ?_ ?_ ?_
    · exact fun h => (cmdReady_iff s).2 ((cmdTaken_iff s).1 h).2.1
    · exact fun h => (rspValid_iff s).2 ((rspTaken_iff s).1 h).2.1
    · exact fun h => (ccReqValid_iff s).2 ((reqTaken_iff s).1 h).2.1
    · exact fun h => (ccRspReady_iff s).2 ((ansTaken_iff s).1 h).2.1
  · intro r hr
    obtain ⟨-, rfl⟩ : rspTaken s = true ∧ Rsp.mk s.stat s.res = r := by simpa [delivered] using hr
    rfl

/-- Settles O59: the status is the response word's quotient by `2^128`, and the phase values have an inverse. -/
theorem statusAndPhaseValuesAreTheTables : Obligations.StatusAndPhaseValuesAreTheTables := by
  refine ⟨fun d => ?_, fun r => ?_, by decide, fun c => ⟨Phase.ofCode c, Phase.code_ofCode c, ?_⟩⟩
  · simp only [List.map_cons, List.map_nil, Rsp.word_toNat_div]
    decide
  · rw [Rsp.word_toNat_div]
    exact Status.code_toNat_le r.status
  · rintro q rfl
    exact (Phase.ofCode_code q).symm

/-- Settles O36: the reset state as rule R40 lists it. -/
theorem resetStateIsAllZero : Obligations.ResetStateIsAllZero := by
  unfold Obligations.ResetStateIsAllZero
  decide

end Sys2Proof.Machine
end

section
/-! The clock edge as a relation with one case for each thing an edge can bring (rules R30, R42, R56, R221). Proofs
about a step split on it; `step_of_edge` and `exists_edge` tie it to `step`. -/

namespace Sys2Proof.Machine

/-! ## The commands -/

/-- What the acceptance of a scramble command loads, by command (rules R140, R170, R175, R177); none for an
instruction that is no scramble command. -/
def scrambleJob : Instr → Option Job
  | .scramble nbits buffer => some (jobRaw nbits buffer)
  | .scrambleIpv4 addr4 => some (jobV4 addr4)
  | .scrambleIpv6 addr6 => some (jobV6 addr6)
  | .scrambleIp addr => some (jobIp addr)
  | .construct _ _ | .drop | .loadkey _ | .encrypt _ => none

/-- Every scramble command runs the one acceptance action on its job. -/
theorem exec_of_scrambleJob {i : Instr} {j : Job} (h : scrambleJob i = some j) (s : State) :
    exec i s = .next (acceptScramble j s) := by
  cases i <;> cases h <;> rfl

/-- A command word decodes to nothing but the six commands (rules R72, R83). -/
theorem decodeCmd_ok_cases {hdr : Header} {data : CmdData} {i : Instr} (h : decodeCmd hdr data = .ok i) :
    (∃ keylen key, i = .construct keylen key) ∨ i = .drop ∨ ∃ j, scrambleJob i = some j := by
  unfold decodeCmd at h
  split at h
  · cases h
  split at h <;> cases h <;> simp [scrambleJob]

/-- A job that delivers a 4-byte result is an embedded IPv4 address over 32 rounds (rule R171). -/
theorem scrambleJob_fmt {i : Instr} {j : Job} (h : scrambleJob i = some j) (hfmt : j.fmt = true) :
    j.n = 32#8 ∧ j.buf0.extractLsb' 0 96 = 0#96 := by
  have hv4 (addr4 : Addr4) : (jobV4 addr4).n = 32#8 ∧ (jobV4 addr4).buf0.extractLsb' 0 96 = 0#96 :=
    ⟨rfl, BitVec.extractLsb'_append_eq_right⟩
  cases i with
  | scramble nbits buffer => cases h; cases hfmt
  | scrambleIpv4 addr4 => cases h; exact hv4 addr4
  | scrambleIpv6 addr6 => cases h; cases hfmt
  | scrambleIp addr =>
    cases addr with
    | v4 addr4 => cases h; exact hv4 addr4
    | v6 addr6 => cases h; cases hfmt
  | construct keylen key => cases h
  | drop => cases h
  | loadkey key => cases h
  | encrypt block => cases h

/-! ## The request a phase offers (rule R105) -/

theorem offeredRequest_of_keyReq {s : State} (hp : s.phase = .keyReq) :
    decodeCcReq (ccReqWord s) = .loadkey (cipherKey s.kreg) := by
  simp [ccReqWord, decodeCcReq_encodeCcReq, ccReqKind, ccReqData, hp]

theorem offeredRequest_of_padReq {s : State} (hp : s.phase = .padReq) :
    decodeCcReq (ccReqWord s) = .encrypt (paddingSeed s.kreg) := by
  simp [ccReqWord, decodeCcReq_encodeCcReq, ccReqKind, ccReqData, hp]

theorem offeredRequest_of_rndReq {s : State} (hp : s.phase = .rndReq) :
    decodeCcReq (ccReqWord s) = .encrypt (padded s.buf s.pad s.i.toNat) := by
  simp [ccReqWord, decodeCcReq_encodeCcReq, ccReqKind, ccReqData, hp]

/-! ## The clock edge -/

/-- `Edge s u`: the coming clock edge writes the registers of `s` to those of `u`; the signals of the edge after it
are not up yet. -/
inductive Edge (s : State) : State → Prop
  /-- `rst = 1` (rule R221). -/
  | reset (hr : s.pins.rst = true) : Edge s (resetEdge s)
  /-- A CONSTRUCT is accepted (rules R122, R123). -/
  | construct {keylen : BitVec 8} {key : KeyWord} (hc : cmdTaken s = true)
      (hd : decodeCmd s.pins.cmdHdr s.pins.cmdData = .ok (.construct keylen key)) :
      Edge s (acceptConstruct keylen key s)
  /-- A DROP is accepted (rule R132). -/
  | drop (hc : cmdTaken s = true) (hd : decodeCmd s.pins.cmdHdr s.pins.cmdData = .ok .drop) : Edge s (acceptDrop s)
  /-- A scramble command is accepted (rules R142, R144 to R147). -/
  | scramble {i : Instr} {j : Job} (hc : cmdTaken s = true)
      (hd : decodeCmd s.pins.cmdHdr s.pins.cmdData = .ok i) (hj : scrambleJob i = some j) :
      Edge s (acceptScramble j s)
  /-- An illegal word is accepted (rule R84). -/
  | illegal {e : DecodeError} (hc : cmdTaken s = true)
      (hd : decodeCmd s.pins.cmdHdr s.pins.cmdData = .error e) : Edge s (acceptIllegal s)
  /-- The core takes the LOADKEY of KEY_REQ (rules R106, R124). -/
  | loadkey (hp : s.phase = .keyReq) (hq : reqTaken s = true) : Edge s (takeLoadkey (cipherKey s.kreg) s)
  /-- The core takes the seed ENCRYPT of PAD_REQ (rules R107, R124). -/
  | encryptSeed (hp : s.phase = .padReq) (hq : reqTaken s = true) : Edge s (takeEncrypt (paddingSeed s.kreg) s)
  /-- The core takes the ENCRYPT of a round (rules R107, R149). -/
  | encryptRound (hp : s.phase = .rndReq) (hq : reqTaken s = true) :
      Edge s (takeEncrypt (padded s.buf s.pad s.i.toNat) s)
  /-- The answer to LOADKEY is taken (rule R125). -/
  | keyAnswer {a : CcRsp} (hp : s.phase = .keyWait) (ha : ansTaken s = true) (hs : s.answer = some a) :
      Edge s (keyAnswered a { s with answer := none })
  /-- The answer to the seed ENCRYPT is taken (rule R126). -/
  | padAnswer {a : CcRsp} (hp : s.phase = .padWait) (ha : ansTaken s = true) (hs : s.answer = some a) :
      Edge s (padAnswered a { s with answer := none })
  /-- The answer of a round is taken (rules R150, R151). -/
  | rndAnswer {a : CcRsp} (hp : s.phase = .rndWait) (ha : ansTaken s = true) (hs : s.answer = some a) :
      Edge s (rndAnswered a { s with answer := none })
  /-- The response is delivered (rule R58). -/
  | deliver (hp : rspTaken s = true) : Edge s (sendRsp s)
  /-- Nothing crosses (rule R30). -/
  | wait (hr : s.pins.rst = false) (hh : handshake s = false) : Edge s s

/-- A step at which an answer is taken is the block's reaction to it (rules R42, R104). -/
theorem step_of_answer {s : State} {a : CcRsp} (h : ansTaken s = true) (hs : s.answer = some a) :
    step s = .next (advance (answered a { s with answer := none })) := by
  obtain ⟨hr, hp, -, -⟩ := (ansTaken_iff s).1 h
  have hc : cmdTaken s = false := by
    rw [← Bool.not_eq_true, cmdTaken_iff]
    rintro ⟨-, hidle, -⟩
    simp [hidle] at hp
  have hq : reqTaken s = false := by
    rw [← Bool.not_eq_true, reqTaken_iff]
    rintro ⟨-, hreq | hreq | hreq, -⟩ <;> simp [hreq] at hp
  rw [step_of_no_instr hr hc hq, react, if_pos h, takeAnswer, hs]

/-- A step at which the response is taken sends it (rule R58). -/
theorem step_of_response {s : State} (h : rspTaken s = true) : step s = .next (advance (sendRsp s)) := by
  obtain ⟨hr, hp, -⟩ := (rspTaken_iff s).1 h
  have hc : cmdTaken s = false := by simp [← Bool.not_eq_true, cmdTaken_iff, hp]
  have hq : reqTaken s = false := by simp [← Bool.not_eq_true, reqTaken_iff, hp]
  have ha : ansTaken s = false := by simp [← Bool.not_eq_true, ansTaken_iff, hp]
  simp [step_of_no_instr hr hc hq, react, ha, h]

/-- A step without reset and without a handshake only brings up the next signals (rule R30). -/
theorem step_of_wait {s : State} (hr : s.pins.rst = false) (hh : handshake s = false) :
    step s = .next (advance s) := by
  obtain ⟨⟨⟨hc, hq⟩, ha⟩, hp⟩ : ((cmdTaken s = false ∧ reqTaken s = false) ∧ ansTaken s = false) ∧
      rspTaken s = false := by simpa [handshake] using hh
  simp [step_of_no_instr hr hc hq, react, ha, hp]

/-- The step does what the relation says. -/
theorem step_of_edge {s u : State} (h : Edge s u) : step s = .next (advance u) := by
  cases h with
  | reset hr => exact step_of_reset hr
  | construct hc hd => exact step_of_command hc hd rfl
  | drop hc hd => exact step_of_command hc hd rfl
  | scramble hc hd hj => exact step_of_command hc hd (exec_of_scrambleJob hj s)
  | illegal hc hd => exact step_of_illegal hc hd
  | loadkey hp hq => exact step_of_request hq (by rw [offeredRequest_of_keyReq hp]; rfl)
  | encryptSeed hp hq => exact step_of_request hq (by rw [offeredRequest_of_padReq hp]; rfl)
  | encryptRound hp hq => exact step_of_request hq (by rw [offeredRequest_of_rndReq hp]; rfl)
  | keyAnswer hp ha hs => rw [step_of_answer ha hs]; simp only [answered, hp]
  | padAnswer hp ha hs => rw [step_of_answer ha hs]; simp only [answered, hp]
  | rndAnswer hp ha hs => rw [step_of_answer ha hs]; simp only [answered, hp]
  | deliver hp => exact step_of_response hp
  | wait hr hh => exact step_of_wait hr hh

/-- Every clock edge is one of the relation's cases. -/
theorem exists_edge (s : State) : ∃ u, Edge s u := by
  obtain ⟨hr, -⟩ | ⟨i, -, hc, hd, -⟩ | ⟨e, hc, hd, -⟩ | ⟨-, hq, -⟩ | ⟨a, ha, hs, -⟩ | ⟨hp, -⟩ | ⟨hr, hh, -⟩ :=
    step_cases s
  · exact ⟨_, .reset hr⟩
  · obtain ⟨keylen, key, rfl⟩ | rfl | ⟨j, hj⟩ := decodeCmd_ok_cases hd
    · exact ⟨_, .construct hc hd⟩
    · exact ⟨_, .drop hc hd⟩
    · exact ⟨_, .scramble hc hd hj⟩
  · exact ⟨_, .illegal hc hd⟩
  · obtain ⟨-, hp | hp | hp, -⟩ := (reqTaken_iff s).1 hq
    · exact ⟨_, .loadkey hp hq⟩
    · exact ⟨_, .encryptSeed hp hq⟩
    · exact ⟨_, .encryptRound hp hq⟩
  · obtain ⟨-, hp | hp | hp, -⟩ := (ansTaken_iff s).1 ha
    · exact ⟨_, .keyAnswer hp ha hs⟩
    · exact ⟨_, .padAnswer hp ha hs⟩
    · exact ⟨_, .rndAnswer hp ha hs⟩
  · exact ⟨_, .deliver hp⟩
  · exact ⟨_, .wait hr hh⟩

/-- A step takes one edge and brings up the next signals. -/
theorem step_eq_next_iff {s t : State} : step s = .next t ↔ ∃ u, Edge s u ∧ t = advance u := by
  constructor
  · intro h
    obtain ⟨u, hu⟩ := exists_edge s
    rw [step_of_edge hu] at h
    exact ⟨u, hu, (Host.Outcome.next.inj h).symm⟩
  · rintro ⟨u, hu, rfl⟩
    exact step_of_edge hu

end Sys2Proof.Machine
end

section
/-! Runs edge by edge, the signals that come up in them, and the block that waits (rules R30, R51, R232, R233). -/

namespace Sys2Proof.Machine

/-! ## Runs -/

@[simp] theorem run_zero (s : State) : run 0 s = .next s := rfl

theorem core_run_succ {M : Host.Core} {s t : M.State} (h : M.step s = .next t) (k : Nat) :
    M.run (k + 1) s = M.run k t := by
  simp [Host.Core.run, h]

theorem run_succ_of_step {s t : State} (h : step s = .next t) (k : Nat) : run (k + 1) s = run k t :=
  core_run_succ (M := Sys2Proof.core) h k

/-- The signals at edge `j + 1` are those at edge `j` after the next one. -/
@[simp] theorem pinsAt_advance (s : State) (j : Nat) : (advance s).pinsAt j = s.pinsAt (j + 1) := by
  unfold State.pinsAt
  rw [advance_pins, advance_env, List.getD_cons_succ]
  cases s.env with
  | nil => cases j <;> rfl
  | cons p env => rfl

@[simp] theorem envAfter_advance (s : State) (k : Nat) : (advance s).envAfter k = s.envAfter (k + 1) := by
  unfold State.envAfter
  rw [advance_env, List.drop_tail]

/-- An edge keeps the signals: the block does not drive them (rule R51). -/
theorem Edge.signals {s u : State} (he : Edge s u) : u.pins = s.pins ∧ u.env = s.env := by
  cases he with
  | @construct keylen key =>
    obtain ⟨-, heq⟩ | ⟨-, heq⟩ := acceptConstruct_cases keylen key s <;> simp [heq]
  | @scramble _ j =>
    obtain ⟨-, heq⟩ | ⟨-, -, heq⟩ | ⟨-, -, heq⟩ | ⟨-, -, -, heq⟩ := acceptScramble_cases j s <;> simp [heq]
  | @keyAnswer a =>
    obtain ⟨-, heq⟩ | ⟨-, heq⟩ := keyAnswered_cases a { s with answer := none } <;> simp [heq]
  | @padAnswer a =>
    obtain ⟨-, heq⟩ | ⟨-, heq⟩ := padAnswered_cases a { s with answer := none } <;> simp [heq]
  | @rndAnswer a =>
    obtain ⟨-, heq⟩ | ⟨-, -, heq⟩ | ⟨-, -, heq⟩ := rndAnswered_cases a { s with answer := none } <;> simp [heq]
  | reset | drop | illegal | loadkey | encryptSeed | encryptRound | deliver | wait => exact ⟨rfl, rfl⟩

/-- What holds of the signals of `k + 1` edges holds, after the first edge, of those of the `k` edges left. -/
theorem Edge.forall_pinsAt_advance {s u : State} (he : Edge s u) {P : Pins → Prop} {k : Nat}
    (h : ∀ j, j < k + 1 → P (s.pinsAt j)) : ∀ j, j < k → P ((advance u).pinsAt j) := by
  obtain ⟨hpins, henv⟩ := he.signals
  have hsame (j : Nat) : u.pinsAt j = s.pinsAt j := by rw [State.pinsAt, State.pinsAt, hpins, henv]
  intro j hj
  rw [pinsAt_advance, hsame]
  exact h (j + 1) (Nat.succ_lt_succ hj)

/-- An edge at which the environment withholds what the phase waits for has no handshake (rules R30, R59). -/
theorem handshake_of_withholds {s : State} (h : s.pins.withholds s.phase = true) :
    s.pins.rst = false ∧ handshake s = false := by
  have hr : s.pins.rst = false := by
    unfold Pins.withholds at h
    simpa using (Bool.and_eq_true_iff.1 h).1
  have hc : ¬ cmdTaken s = true := by
    rw [cmdTaken_iff]
    rintro ⟨-, hp, hv⟩
    simp [Pins.withholds, hp, hv] at h
  have hq : ¬ reqTaken s = true := by
    rw [reqTaken_iff]
    rintro ⟨-, hp | hp | hp, hv, -⟩ <;> simp [Pins.withholds, hp, hv] at h
  have ha : ¬ ansTaken s = true := by
    rw [ansTaken_iff]
    rintro ⟨-, hp | hp | hp, hv, -⟩ <;> simp [Pins.withholds, hp, hv] at h
  have hd : ¬ rspTaken s = true := by
    rw [rspTaken_iff]
    rintro ⟨-, hp, hv⟩
    simp [Pins.withholds, hp, hv] at h
  exact ⟨hr, by simp [handshake, hc, hq, ha, hd]⟩

/-- Settles O13, by induction on the number of edges: each of them only brings up the next signals. -/
theorem withheldHandshakeLeavesTheBlockWaiting : Obligations.WithheldHandshakeLeavesTheBlockWaiting := by
  intro k
  induction k with
  | zero => intro s _; rfl
  | succ k ih =>
    intro s h
    obtain ⟨hr, hh⟩ := handshake_of_withholds (h 0 (Nat.succ_pos k))
    have hrest := (Edge.wait hr hh).forall_pinsAt_advance (P := fun p => p.withholds s.phase = true) h
    rw [run_succ_of_step (step_of_wait hr hh), ih (advance s) hrest, pinsAt_advance, envAfter_advance]
    rfl

end Sys2Proof.Machine
end

section
/-! The invariant that every edge keeps (rules R23, R27, R28, R35, R38, R63, R154). It is read phase by phase first;
then each operation that an edge performs establishes the part its next phase asks for. -/

namespace Sys2Proof.Machine

/-! ## The invariant, phase by phase -/

/-- What the invariant says of the architectural state alone: an unkeyed block has PAD zero, a keyed one has a
Padding Block under the core's valid key (rules R35, R38). -/
def KeySound (a : Arch) : Prop :=
  (a.keyed = false → a.pad = 0#128) ∧ (a.keyed = true → a.ckValid = true ∧ ∃ seed, a.pad = Config.E a.ck seed)

/-- The shape of the registers during a CONSTRUCT (rules R26, R33, R123). -/
def ConstructShape (s : State) : Prop :=
  s.keyed = false ∧ s.buf = 0#128 ∧ s.flip = 0#128 ∧ s.i = 0#8 ∧ s.n = 0#8 ∧ s.fmt = false

/-- The shape of the registers during the rounds (rules R23, R24, R27, R28, R154, R171). -/
def RoundShape (s : State) : Prop :=
  s.keyed = true ∧ s.kreg = 0#256 ∧ s.i < s.n ∧ s.n ≤ 128#8 ∧ s.flip &&& ~~~himask s.i.toNat = 0#128 ∧
    (s.fmt = true → s.n = 32#8 ∧ s.buf.extractLsb' 0 96 = 0#96)

theorem keySound_of_unkeyed {a : Arch} (hk : a.keyed = false) (hp : a.pad = 0#128) : KeySound a :=
  ⟨fun _ => hp, fun h => by rw [hk] at h; cases h⟩

theorem keySound_arch_iff (s : State) : KeySound s.arch ↔ keyedInv s = true ∧ paddingInv s := by
  unfold KeySound keyedInv paddingInv
  cases hk : s.keyed <;> simp [hk]

theorem workClear_iff (s : State) :
    workClear s = true ↔ s.buf = 0#128 ∧ s.flip = 0#128 ∧ s.kreg = 0#256 ∧ s.i = 0#8 ∧ s.n = 0#8 ∧ s.fmt = false := by
  simp [workClear, and_assoc]

theorem rspClear_iff (s : State) : rspClear s = true ↔ s.stat = .ok ∧ s.res = 0#128 := by
  simp [rspClear]

theorem pendingInv_iff (s : State) :
    pendingInv s = true ↔ (s.answer.isSome = true ↔ s.phase = .keyWait ∨ s.phase = .padWait ∨ s.phase = .rndWait) := by
  rw [pendingInv, beq_iff_eq, Bool.eq_iff_iff, ccRspReady_iff]

/-- What the invariant asks for in each phase, besides the soundness of the key. -/
def PhaseInv (s : State) : Prop :=
  match s.phase with
  | .idle => workClear s = true ∧ rspClear s = true ∧ s.answer = none
  | .resp => workClear s = true ∧ s.answer = none
  | .keyReq => rspClear s = true ∧ ConstructShape s ∧ s.answer = none
  | .keyWait => rspClear s = true ∧ ConstructShape s ∧ s.answer.isSome = true ∧
      ∀ a, s.answer = some a → a.err = false → s.ckValid = true ∧ s.ck = cipherKey s.kreg
  | .padReq => rspClear s = true ∧ ConstructShape s ∧ s.answer = none ∧
      s.ckValid = true ∧ s.ck = cipherKey s.kreg
  | .padWait => rspClear s = true ∧ ConstructShape s ∧ s.answer.isSome = true ∧
      (s.ckValid = true ∧ s.ck = cipherKey s.kreg) ∧
      ∀ a, s.answer = some a → a.err = false → a.data = Config.E s.ck (paddingSeed s.kreg)
  | .rndReq => rspClear s = true ∧ RoundShape s ∧ s.answer = none
  | .rndWait => rspClear s = true ∧ RoundShape s ∧ s.answer.isSome = true ∧
      ∀ a, s.answer = some a → a.err = false → a.data = Config.E s.ck (padded s.buf s.pad s.i.toNat)

/-- The invariant, read phase by phase. -/
theorem inv_iff (s : State) : Inv s ↔ PhaseInv s ∧ KeySound s.arch := by
  have hfields : Inv s ↔ shapeInv s = true ∧ stagedKeyInv s ∧ answerInv s ∧ paddingInv s :=
    ⟨fun ⟨hs, hst, ha, hp⟩ => ⟨hs, hst, ha, hp⟩, fun ⟨hs, hst, ha, hp⟩ => ⟨hs, hst, ha, hp⟩⟩
  have hparts : Inv s ↔ (idleInv s = true ∧ constructInv s = true ∧ roundInv s = true ∧ pendingInv s = true ∧
      stagedKeyInv s ∧ answerInv s) ∧ KeySound s.arch := by
    rw [hfields, keySound_arch_iff]
    simp only [shapeInv, Bool.and_eq_true]
    tauto
  rw [hparts, pendingInv_iff]
  refine and_congr_left fun _ => ?_
  cases hp : s.phase <;>
    simp [PhaseInv, idleInv, constructInv, roundInv, stagedKeyInv, answerInv, ConstructShape, RoundShape, hp,
      and_assoc, imp_iff_not_or]

theorem Inv.keySound {s : State} (h : Inv s) : KeySound s.arch := by
  obtain ⟨-, hk⟩ := (inv_iff s).1 h
  exact hk

/-- In IDLE no register holds anything but KEYED and PAD, and no request is pending (rule R35). -/
theorem Inv.idle {s : State} (h : Inv s) (hp : s.phase = .idle) :
    workClear s = true ∧ rspClear s = true ∧ s.answer = none := by
  obtain ⟨hphase, -⟩ := (inv_iff s).1 h
  simpa only [PhaseInv, hp] using hphase

/-- The invariant does not look at the signals. -/
theorem inv_advance_iff (s : State) : Inv (advance s) ↔ Inv s :=
  ⟨fun ⟨h, hst, ha, hp⟩ => ⟨h, hst, ha, hp⟩, fun ⟨h, hst, ha, hp⟩ => ⟨h, hst, ha, hp⟩⟩

/-! ## The positions of FLIP that no round has reached -/

/-- FLIP masked as in `RoundShape` is zero when its positions from `i` on are (rules R10, R23). -/
theorem and_not_himask_eq_zero_iff (flip : Block) (i : Nat) :
    flip &&& ~~~himask i = 0#128 ↔ ∀ p, i ≤ p → p < 128 → pos flip p = false := by
  constructor
  · intro h p hip hp
    have hpos : pos (flip &&& ~~~himask i) p = false := by rw [h, pos_zero]
    simpa [pos_not, pos_himask_eq, hp, Nat.not_lt.2 hip] using hpos
  · intro h
    refine eq_of_pos_eq fun p hp => ?_
    by_cases hip : p < i
    · simp [pos_not, pos_himask_eq, hp, hip]
    · simp [h p (Nat.not_lt.1 hip) hp]

/-- The round at position `i` writes no position after `i` (rules R23, R150). -/
theorem setFlip_keeps_tail_zero {flip : Block} {i : Nat} (f : Bool) (hi : i < 128)
    (h : flip &&& ~~~himask i = 0#128) : setFlip flip i f &&& ~~~himask (i + 1) = 0#128 := by
  rw [and_not_himask_eq_zero_iff] at h ⊢
  intro p hip hp
  rw [pos_setFlip_eq flip f hi hp, h p (by omega) hp]
  simp
  omega

/-! ## What the operations establish -/

theorem inv_resetEdge (s : State) : Inv (resetEdge s) :=
  (inv_iff _).2 ⟨by simp [PhaseInv, workClear_iff, rspClear_iff], keySound_of_unkeyed rfl rfl⟩

/-- Entering RESP clears whatever the phase before it used, so only the key must be sound (rules R57, R63). -/
theorem inv_enterResp {s : State} (hk : KeySound s.arch) (ha : s.answer = none) (st : Status) (d : Block) :
    Inv (enterResp st d s) :=
  (inv_iff _).2 ⟨by simp [PhaseInv, workClear_iff, ha], hk⟩

/-- Entering RESP at an answer: the answer has left the core (rule R104). -/
theorem inv_enterResp_answered {s : State} (hk : KeySound s.arch) (st : Status) (d : Block) :
    Inv (enterResp st d { s with answer := none }) :=
  inv_enterResp (s := { s with answer := none }) hk rfl st d

theorem inv_sendRsp {s : State} (h : Inv s) (hp : s.phase = .resp) : Inv (sendRsp s) := by
  obtain ⟨hphase, hk⟩ := (inv_iff s).1 h
  simp only [PhaseInv, hp] at hphase
  obtain ⟨hwork, ha⟩ := hphase
  exact (inv_iff _).2 ⟨⟨hwork, (rspClear_iff _).2 ⟨rfl, rfl⟩, ha⟩, hk⟩

section acceptance
variable {s : State} (h : Inv s) (hp : s.phase = .idle)
include h hp

theorem inv_acceptConstruct (keylen : BitVec 8) (key : KeyWord) : Inv (acceptConstruct keylen key s) := by
  obtain ⟨hwork, hrsp, ha⟩ := h.idle hp
  obtain ⟨-, heq⟩ | ⟨-, heq⟩ := acceptConstruct_cases keylen key s <;> rw [heq]
  · exact inv_enterResp h.keySound ha _ _
  · obtain ⟨hbuf, hflip, -, hi, hn, hfmt⟩ := (workClear_iff s).1 hwork
    exact (inv_iff _).2 ⟨⟨hrsp, ⟨rfl, hbuf, hflip, hi, hn, hfmt⟩, ha⟩, keySound_of_unkeyed rfl rfl⟩

theorem inv_acceptDrop : Inv (acceptDrop s) := by
  obtain ⟨-, -, ha⟩ := h.idle hp
  exact inv_enterResp (s := clearKeyed s) (keySound_of_unkeyed rfl rfl) ha _ _

theorem inv_acceptIllegal : Inv (acceptIllegal s) := by
  obtain ⟨-, -, ha⟩ := h.idle hp
  exact inv_enterResp h.keySound ha _ _

theorem inv_acceptScramble {j : Job} (hj : j.fmt = true → j.n = 32#8 ∧ j.buf0.extractLsb' 0 96 = 0#96) :
    Inv (acceptScramble j s) := by
  obtain ⟨hwork, hrsp, ha⟩ := h.idle hp
  obtain ⟨-, heq⟩ | ⟨-, -, heq⟩ | ⟨-, -, heq⟩ | ⟨hk, hpos, hle, heq⟩ := acceptScramble_cases j s <;> rw [heq]
  · exact inv_enterResp h.keySound ha _ _
  · exact inv_enterResp h.keySound ha _ _
  · exact inv_enterResp h.keySound ha _ _
  · obtain ⟨-, -, hkreg, -⟩ := (workClear_iff s).1 hwork
    exact (inv_iff _).2 ⟨⟨hrsp, ⟨hk, hkreg, hpos, hle, BitVec.zero_and, hj⟩, ha⟩, h.keySound⟩

end acceptance

/-- A successful answer to ENCRYPT is the ciphertext (rules R101, R107). -/
theorem encryptReply_data {v : Bool} {ck b : Block} {d : Draw} (h : (encryptReply v ck b d).err = false) :
    (encryptReply v ck b d).data = Config.E ck b := by
  obtain ⟨-, -, heq⟩ | ⟨-, heq⟩ := encryptReply_cases v ck b d
  · rw [heq]
  · rw [heq] at h; cases h

/-- A LOADKEY that is answered without error has loaded its key (rule R106). -/
theorem loadkey_loaded {k : Block} {d : Draw} (h : (loadkeyReply k d).err = false) :
    Config.keyOk k = true ∧ loadkeyCk k d = k := by
  have hok : Config.keyOk k = true := by simpa [loadkeyReply] using h
  exact ⟨hok, if_pos hok⟩

section requests
variable {s : State} (h : Inv s)
include h

theorem inv_takeLoadkey (hp : s.phase = .keyReq) : Inv (takeLoadkey (cipherKey s.kreg) s) := by
  obtain ⟨hphase, hk⟩ := (inv_iff s).1 h
  simp only [PhaseInv, hp] at hphase
  obtain ⟨hrsp, hshape, -⟩ := hphase
  have hkeyed : s.keyed = false := hshape.1
  refine (inv_iff _).2 ⟨?_, keySound_of_unkeyed hkeyed (hk.1 hkeyed)⟩
  simp only [PhaseInv, takeLoadkey_phase, hp, Phase.afterRequest]
  refine ⟨hrsp, hshape, rfl, ?_⟩
  rintro a ⟨⟩ herr
  exact loadkey_loaded herr

theorem inv_takeEncrypt_seed (hp : s.phase = .padReq) : Inv (takeEncrypt (paddingSeed s.kreg) s) := by
  obtain ⟨hphase, hk⟩ := (inv_iff s).1 h
  simp only [PhaseInv, hp] at hphase
  obtain ⟨hrsp, hshape, -, hstaged⟩ := hphase
  refine (inv_iff _).2 ⟨?_, hk⟩
  simp only [PhaseInv, takeEncrypt_phase, hp, Phase.afterRequest]
  refine ⟨hrsp, hshape, rfl, hstaged, ?_⟩
  rintro a ⟨⟩ herr
  exact encryptReply_data herr

theorem inv_takeEncrypt_round (hp : s.phase = .rndReq) :
    Inv (takeEncrypt (padded s.buf s.pad s.i.toNat) s) := by
  obtain ⟨hphase, hk⟩ := (inv_iff s).1 h
  simp only [PhaseInv, hp] at hphase
  obtain ⟨hrsp, hshape, -⟩ := hphase
  refine (inv_iff _).2 ⟨?_, hk⟩
  simp only [PhaseInv, takeEncrypt_phase, hp, Phase.afterRequest]
  refine ⟨hrsp, hshape, rfl, ?_⟩
  rintro a ⟨⟩ herr
  exact encryptReply_data herr

end requests

section answers
variable {s : State} {a : CcRsp} (h : Inv s)
include h

theorem inv_keyAnswered (hs : s.answer = some a) (hp : s.phase = .keyWait) :
    Inv (keyAnswered a { s with answer := none }) := by
  obtain ⟨hphase, hk⟩ := (inv_iff s).1 h
  simp only [PhaseInv, hp] at hphase
  obtain ⟨hrsp, hshape, -, hloaded⟩ := hphase
  obtain ⟨-, heq⟩ | ⟨herr, heq⟩ := keyAnswered_cases a { s with answer := none } <;> rw [heq]
  · exact inv_enterResp_answered hk _ _
  · exact (inv_iff _).2 ⟨⟨hrsp, hshape, rfl, hloaded a hs herr⟩, hk⟩

theorem inv_padAnswered (hs : s.answer = some a) (hp : s.phase = .padWait) :
    Inv (padAnswered a { s with answer := none }) := by
  obtain ⟨hphase, hk⟩ := (inv_iff s).1 h
  simp only [PhaseInv, hp] at hphase
  obtain ⟨-, -, -, ⟨hvalid, -⟩, hseed⟩ := hphase
  obtain ⟨-, heq⟩ | ⟨herr, heq⟩ := padAnswered_cases a { s with answer := none } <;> rw [heq]
  · exact inv_enterResp_answered hk _ _
  · have hkeyed : KeySound (setKeyed a.data s).arch :=
      ⟨fun hf => Bool.noConfusion hf, fun _ => ⟨hvalid, paddingSeed s.kreg, hseed a hs herr⟩⟩
    exact inv_enterResp_answered (s := setKeyed a.data s) hkeyed _ _

theorem inv_rndAnswered (hp : s.phase = .rndWait) : Inv (rndAnswered a { s with answer := none }) := by
  obtain ⟨hphase, hk⟩ := (inv_iff s).1 h
  simp only [PhaseInv, hp] at hphase
  obtain ⟨hrsp, ⟨hkeyed, hkreg, hin, hn, hflip, hfmt⟩, -⟩ := hphase
  obtain ⟨-, heq⟩ | ⟨-, hnext, heq⟩ | ⟨-, -, heq⟩ := rndAnswered_cases a { s with answer := none } <;> rw [heq]
  · exact inv_enterResp_answered hk _ _
  · have hi : s.i.toNat < 128 := by bv_omega
    have hsucc : (s.i + 1#8).toNat = s.i.toNat + 1 := by bv_omega
    have htail : nextFlip a s &&& ~~~himask (s.i + 1#8).toNat = 0#128 := by
      rw [hsucc]
      exact setFlip_keeps_tail_zero _ hi hflip
    exact (inv_iff _).2 ⟨⟨hrsp, ⟨hkeyed, hkreg, hnext, hn, htail, hfmt⟩, rfl⟩, hk⟩
  · exact inv_enterResp_answered hk _ _

end answers

/-! ## Every edge keeps the invariant -/

theorem inv_of_edge {s u : State} (h : Inv s) (he : Edge s u) : Inv u := by
  have hidle (hc : cmdTaken s = true) : s.phase = .idle := ((cmdTaken_iff s).1 hc).2.1
  cases he with
  | reset hr => exact inv_resetEdge s
  | construct hc hd => exact inv_acceptConstruct h (hidle hc) _ _
  | drop hc hd => exact inv_acceptDrop h (hidle hc)
  | scramble hc hd hj => exact inv_acceptScramble h (hidle hc) (scrambleJob_fmt hj)
  | illegal hc hd => exact inv_acceptIllegal h (hidle hc)
  | loadkey hp hq => exact inv_takeLoadkey h hp
  | encryptSeed hp hq => exact inv_takeEncrypt_seed h hp
  | encryptRound hp hq => exact inv_takeEncrypt_round h hp
  | keyAnswer hp ha hs => exact inv_keyAnswered h hs hp
  | padAnswer hp ha hs => exact inv_padAnswered h hs hp
  | rndAnswer hp ha hs => exact inv_rndAnswered h hp
  | deliver hp => exact inv_sendRsp h ((rspTaken_iff s).1 hp).2.1
  | wait hr hh => exact h

/-- Settles O38, edge by edge. -/
theorem everyStepKeepsTheInvariant : Obligations.EveryStepKeepsTheInvariant := by
  intro s t h hstep
  obtain ⟨u, he, rfl⟩ := step_eq_next_iff.1 hstep
  exact (inv_advance_iff u).2 (inv_of_edge h he)

/-- Settles O37: the reset state is what a reset edge leads to. -/
theorem resetMeetsTheInvariant : Obligations.ResetMeetsTheInvariant :=
  inv_resetEdge State.reset

/-- In IDLE the invariant leaves nothing but the architectural state (rule R35). -/
theorem Inv.eq_idleWith {s : State} (h : Inv s) (hp : s.phase = .idle) : s = idleWith s.arch s.pins s.env := by
  obtain ⟨hwork, hrsp, ha⟩ := h.idle hp
  obtain ⟨hbuf, hflip, hkreg, hi, hn, hfmt⟩ := (workClear_iff s).1 hwork
  obtain ⟨hstat, hres⟩ := (rspClear_iff s).1 hrsp
  cases s
  cases hp; cases ha; cases hbuf; cases hflip; cases hkreg; cases hi; cases hn; cases hfmt; cases hstat; cases hres
  rfl

/-- Settles O39: the invariant in IDLE and in RESP. -/
theorem idleBlockHoldsOnlyPadAndKeyed : Obligations.IdleBlockHoldsOnlyPadAndKeyed := by
  intro s h
  refine ⟨fun hp => ⟨h.eq_idleWith hp, h.keySound.1⟩, fun hp => ?_⟩
  obtain ⟨hphase, -⟩ := (inv_iff s).1 h
  simp only [PhaseInv, hp] at hphase
  exact (workClear_iff s).1 hphase.1

end Sys2Proof.Machine
end

section
/-! Which edges touch KEYED, PAD, CK and CK_VALID (rules R21, R33, R36, R127). -/

namespace Sys2Proof.Machine

/-! ## The architectural state, operation by operation -/

theorem acceptScramble_arch (j : Job) (s : State) : (acceptScramble j s).arch = s.arch := by
  obtain ⟨-, heq⟩ | ⟨-, -, heq⟩ | ⟨-, -, heq⟩ | ⟨-, -, -, heq⟩ := acceptScramble_cases j s <;> rw [heq] <;> rfl

theorem acceptConstruct_arch {keylen : BitVec 8} (h : keylen ≠ 32#8) (key : KeyWord) (s : State) :
    (acceptConstruct keylen key s).arch = s.arch := by
  rw [acceptConstruct, if_pos h]
  rfl

theorem keyAnswered_arch (a : CcRsp) (s : State) : (keyAnswered a s).arch = s.arch := by
  obtain ⟨-, heq⟩ | ⟨-, heq⟩ := keyAnswered_cases a s <;> rw [heq] <;> rfl

theorem rndAnswered_arch (a : CcRsp) (s : State) : (rndAnswered a s).arch = s.arch := by
  obtain ⟨-, heq⟩ | ⟨-, -, heq⟩ | ⟨-, -, heq⟩ := rndAnswered_cases a s <;> rw [heq] <;> rfl

/-! ## The edges that touch it -/

/-- The edge ends the Scrambler: reset, DROP, or a CONSTRUCT of length 32 (rules R33, R123, R132, R221). -/
def ClearsKey (s : State) : Prop :=
  s.pins.rst = true ∨ (cmdTaken s = true ∧
    (decodeCmd s.pins.cmdHdr s.pins.cmdData = .ok .drop ∨
      ∃ key, decodeCmd s.pins.cmdHdr s.pins.cmdData = .ok (.construct 32#8 key)))

/-- The edge is the last step of a successful CONSTRUCT (rule R126). -/
def SetsKey (s : State) : Prop :=
  s.phase = .padWait ∧ ansTaken s = true ∧ ∃ d, s.answer = some { err := false, data := d }

/-- The edge loads the core's key (rules R104, R106). -/
def LoadsCoreKey (s : State) : Prop := s.phase = .keyReq ∧ reqTaken s = true

/-- Everything an edge can do to the architectural state. -/
theorem Edge.arch_cases {s u : State} (he : Edge s u) :
    u.arch = s.arch ∨ s.pins.rst = true ∨
      ((ClearsKey s ∨ SetsKey s) ∧ u.ck = s.ck ∧ u.ckValid = s.ckValid) ∨
      (LoadsCoreKey s ∧ u.keyed = s.keyed ∧ u.pad = s.pad) := by
  cases he with
  | reset hr => exact .inr (.inl hr)
  | @construct keylen key hc hd =>
    by_cases hlen : keylen = 32#8
    · subst hlen
      exact .inr (.inr (.inl ⟨.inl (.inr ⟨hc, .inr ⟨key, hd⟩⟩), rfl, rfl⟩))
    · exact .inl (acceptConstruct_arch hlen key s)
  | drop hc hd => exact .inr (.inr (.inl ⟨.inl (.inr ⟨hc, .inl hd⟩), rfl, rfl⟩))
  | scramble hc hd hj => exact .inl (acceptScramble_arch _ s)
  | illegal hc hd => exact .inl rfl
  | loadkey hp hq => exact .inr (.inr (.inr ⟨⟨hp, hq⟩, rfl, rfl⟩))
  | encryptSeed hp hq => exact .inl rfl
  | encryptRound hp hq => exact .inl rfl
  | keyAnswer hp ha hs => exact .inl (keyAnswered_arch _ _)
  | @padAnswer a hp ha hs =>
    obtain ⟨-, heq⟩ | ⟨herr, heq⟩ := padAnswered_cases a { s with answer := none } <;> rw [heq]
    · exact .inl rfl
    · have hsets : SetsKey s := ⟨hp, ha, a.data, by rw [hs, ← herr]⟩
      exact .inr (.inr (.inl ⟨.inr hsets, rfl, rfl⟩))
  | rndAnswer hp ha hs => exact .inl (rndAnswered_arch _ _)
  | deliver hp => exact .inl rfl
  | wait hr hh => exact .inl rfl

/-- An edge that neither ends nor keys the Scrambler and is no LOADKEY leaves the architectural state alone. -/
theorem Edge.arch_eq {s u : State} (he : Edge s u) (hclear : ¬ ClearsKey s) (hset : ¬ SetsKey s)
    (hload : ¬ LoadsCoreKey s) : u.arch = s.arch := by
  obtain h | hr | ⟨hc | hs, -⟩ | ⟨hl, -⟩ := he.arch_cases
  · exact h
  · exact absurd (.inl hr) hclear
  · exact absurd hc hclear
  · exact absurd hs hset
  · exact absurd hl hload

/-- A step has one outcome, so the edge that is known is the one it took. -/
theorem eq_advance_of_edge {s t u : State} (h : step s = .next t) (he : Edge s u) : t = advance u := by
  rw [step_of_edge he] at h
  exact (Host.Outcome.next.inj h).symm

theorem cleared_of_clearsKey {s t : State} (h : step s = .next t) (hc : ClearsKey s) :
    t.keyed = false ∧ t.pad = 0#128 := by
  obtain hr | ⟨ht, hd | ⟨key, hd⟩⟩ := hc
  · rw [eq_advance_of_edge h (.reset hr)]
    exact ⟨rfl, rfl⟩
  · rw [eq_advance_of_edge h (.drop ht hd)]
    exact ⟨rfl, rfl⟩
  · rw [eq_advance_of_edge h (.construct ht hd)]
    exact ⟨rfl, rfl⟩

theorem keyed_of_setsKey {s t : State} (h : step s = .next t) (hs : SetsKey s) :
    t.keyed = true ∧ s.answer = some { err := false, data := t.pad } := by
  obtain ⟨hp, ha, d, hd⟩ := hs
  rw [eq_advance_of_edge h (.padAnswer hp ha hd)]
  exact ⟨rfl, hd⟩

/-- Settles O40: the edges that key, unkey or load are listed, and every other edge keeps the architectural state. -/
theorem onlyConstructDropAndResetTouchTheKey : Obligations.OnlyConstructDropAndResetTouchTheKey := by
  intro s t h
  obtain ⟨u, he, rfl⟩ := step_eq_next_iff.1 h
  refine ⟨cleared_of_clearsKey h, keyed_of_setsKey h, fun hclear hset => ?_, fun hr hload => ?_⟩
  · obtain harch | hr | ⟨hc | hs, -⟩ | ⟨-, hkeep⟩ := he.arch_cases
    · exact ⟨congrArg Arch.keyed harch, congrArg Arch.pad harch⟩
    · exact absurd (.inl hr) hclear
    · exact absurd hc hclear
    · exact absurd hs hset
    · exact hkeep
  · obtain harch | hrst | ⟨-, hkeep⟩ | ⟨hl, -⟩ := he.arch_cases
    · exact ⟨congrArg Arch.ck harch, congrArg Arch.ckValid harch⟩
    · rw [hr] at hrst; cases hrst
    · exact hkeep
    · exact absurd hl hload

/-! ## After a command that leaves no trace -/

/-- The phases of a block that runs a scramble command, answers, or idles. -/
def KeyQuiet (p : Phase) : Prop := p = .idle ∨ p = .rndReq ∨ p = .rndWait ∨ p = .resp

theorem acceptScramble_keyQuiet (j : Job) (s : State) : KeyQuiet (acceptScramble j s).phase := by
  obtain ⟨-, heq⟩ | ⟨-, -, heq⟩ | ⟨-, -, heq⟩ | ⟨-, -, -, heq⟩ := acceptScramble_cases j s <;>
    simp [heq, KeyQuiet]

/-- Once in these phases, a block without reset and without a new command stays there, and none of its edges
touches the key. -/
theorem Edge.keyQuiet {s u : State} (he : Edge s u) (hq : KeyQuiet s.phase) (hr : s.pins.rst = false)
    (hc : cmdTaken s = false) : KeyQuiet u.phase ∧ u.arch = s.arch := by
  have hclear : ¬ ClearsKey s := by simp [ClearsKey, hr, hc]
  have hset : ¬ SetsKey s := by
    rintro ⟨hp, -⟩
    simp [KeyQuiet, hp] at hq
  have hload : ¬ LoadsCoreKey s := by
    rintro ⟨hp, -⟩
    simp [KeyQuiet, hp] at hq
  refine ⟨?_, he.arch_eq hclear hset hload⟩
  cases he with
  | reset h => rw [hr] at h; cases h
  | construct h => rw [hc] at h; cases h
  | drop h => rw [hc] at h; cases h
  | scramble h => rw [hc] at h; cases h
  | illegal h => rw [hc] at h; cases h
  | loadkey hp => simp [KeyQuiet, hp] at hq
  | encryptSeed hp => simp [KeyQuiet, hp] at hq
  | encryptRound hp => simp [KeyQuiet, hp, Phase.afterRequest]
  | keyAnswer hp => simp [KeyQuiet, hp] at hq
  | padAnswer hp => simp [KeyQuiet, hp] at hq
  | @rndAnswer a =>
    obtain ⟨-, heq⟩ | ⟨-, -, heq⟩ | ⟨-, -, heq⟩ := rndAnswered_cases a { s with answer := none } <;>
      simp [heq, KeyQuiet]
  | deliver => exact .inl rfl
  | wait => exact hq

/-- The acceptance of a command that is neither a DROP nor a CONSTRUCT of length 32 leads to these phases and
touches no key (rules R84, R122, R142). -/
theorem Edge.keyQuiet_of_command {s u : State} (he : Edge s u) (hc : cmdTaken s = true)
    (hcons : ∀ key, decodeCmd s.pins.cmdHdr s.pins.cmdData ≠ .ok (.construct 32#8 key))
    (hdrop : decodeCmd s.pins.cmdHdr s.pins.cmdData ≠ .ok .drop) : KeyQuiet u.phase ∧ u.arch = s.arch := by
  obtain ⟨hr, hidle, -⟩ := (cmdTaken_iff s).1 hc
  have hclear : ¬ ClearsKey s := by simp [ClearsKey, hr, hcons, hdrop]
  have hset : ¬ SetsKey s := by simp [SetsKey, hidle]
  have hload : ¬ LoadsCoreKey s := by simp [LoadsCoreKey, hidle]
  refine ⟨?_, he.arch_eq hclear hset hload⟩
  cases he with
  | reset h => rw [hr] at h; cases h
  | @construct keylen key _ hd =>
    obtain ⟨-, heq⟩ | ⟨rfl, -⟩ := acceptConstruct_cases keylen key s
    · simp [heq, KeyQuiet]
    · exact absurd hd (hcons key)
  | drop _ hd => exact absurd hd hdrop
  | @scramble _ j => exact acceptScramble_keyQuiet j s
  | illegal => exact .inr (.inr (.inr rfl))
  | loadkey hp => rw [hidle] at hp; cases hp
  | encryptSeed hp => rw [hidle] at hp; cases hp
  | encryptRound hp => rw [hidle] at hp; cases hp
  | keyAnswer hp => rw [hidle] at hp; cases hp
  | padAnswer hp => rw [hidle] at hp; cases hp
  | rndAnswer hp => rw [hidle] at hp; cases hp
  | deliver hp => exact .inl rfl
  | wait _ hh => simp [handshake, hc] at hh

/-! ## Runs without another command -/

theorem trace_succ_of_step {α : Type} (f : State → Option α) {s t : State} (h : step s = .next t) (k : Nat) :
    trace f (k + 1) s = (f s).toList ++ trace f k t := by
  simp [trace, h]

/-- A run keeps the invariant. -/
theorem inv_of_run {k : Nat} {s t : State} (h : Inv s) (hrun : run k s = .next t) : Inv t := by
  induction k generalizing s with
  | zero =>
    obtain rfl : s = t := Host.Outcome.next.inj hrun
    exact h
  | succ k ih =>
    obtain ⟨u, he⟩ := exists_edge s
    rw [run_succ_of_step (step_of_edge he)] at hrun
    exact ih ((inv_advance_iff u).2 (inv_of_edge h he)) hrun

/-- A run without reset and without another command, from these phases, touches no key. -/
theorem arch_of_quiet_run {k : Nat} {s t : State} (hq : KeyQuiet s.phase)
    (hr : ∀ j, j < k → (s.pinsAt j).rst = false) (hnone : trace accepted k s = []) (hrun : run k s = .next t) :
    t.arch = s.arch := by
  induction k generalizing s with
  | zero =>
    obtain rfl : s = t := Host.Outcome.next.inj hrun
    rfl
  | succ k ih =>
    obtain ⟨u, he⟩ := exists_edge s
    have hstep := step_of_edge he
    rw [run_succ_of_step hstep] at hrun
    rw [trace_succ_of_step accepted hstep, List.append_eq_nil_iff] at hnone
    obtain ⟨hnow, hlater⟩ := hnone
    have hc : cmdTaken s = false := by simpa [accepted] using hnow
    obtain ⟨hqu, harch⟩ := he.keyQuiet hq (hr 0 (Nat.succ_pos k)) hc
    have hru := he.forall_pinsAt_advance (P := fun p => p.rst = false) hr
    exact (ih (s := advance u) hqu hru hlater hrun).trans harch

/-- Settles O41: the acceptance touches no key and leads to phases that touch none; back in IDLE the invariant leaves
nothing else. -/
theorem scramblingLeavesNoTrace : Obligations.ScramblingLeavesNoTrace := by
  intro k s t hinv hc hcons hdrop hr hone hrun
  have hidle : s.phase = .idle := ((cmdTaken_iff s).1 hc).2.1
  have harch : t.arch = s.arch := by
    cases k with
    | zero => cases hone
    | succ k =>
      obtain ⟨u, he⟩ := exists_edge s
      have hstep := step_of_edge he
      obtain ⟨hqu, hu⟩ := he.keyQuiet_of_command hc hcons hdrop
      have hlater : trace accepted k (advance u) = [] := by
        rw [trace_succ_of_step accepted hstep] at hone
        simpa [accepted, hc] using hone
      have hru := he.forall_pinsAt_advance (P := fun p => p.rst = false) hr
      rw [run_succ_of_step hstep] at hrun
      exact (arch_of_quiet_run (s := advance u) hqu hru hlater hrun).trans hu
  refine ⟨harch, fun hp => ?_⟩
  calc t = idleWith t.arch t.pins t.env := (inv_of_run hinv hrun).eq_idleWith hp
    _ = idleWith s.arch t.pins t.env := by rw [harch]
    _ = { s with pins := t.pins, env := t.env } := by rw [hinv.eq_idleWith hidle]; rfl

end Sys2Proof.Machine
end

section
/-! What PAD, KREG, CK and the discarded ciphertext bits can reach at one edge (rules R37, R153). -/

namespace Sys2Proof.Machine

namespace sameButSecrets

section observations
variable {s t : State} (h : sameButSecrets s t)
include h

/-- The block and its core are ready and willing alike: no handshake looks at a secret (rules R51, R105). -/
theorem handshakes_eq : cmdTaken s = cmdTaken t ∧ reqTaken s = reqTaken t ∧ ansTaken s = ansTaken t ∧
    rspTaken s = rspTaken t := by
  obtain ⟨-, -, -, -, -, -, -, -, hphase, -, hpins, -, hanswer⟩ := h
  have hpending : s.answer.isSome = t.answer.isSome := by
    simpa using congrArg Option.isSome hanswer
  have hfree : s.answer.isNone = t.answer.isNone := by
    simpa using congrArg Option.isNone hanswer
  simp [cmdTaken, reqTaken, ansTaken, rspTaken, cmdReady, ccReqValid, ccRspReady, rspValid, ccReqReady, ccRspValid,
    hphase, hpins, hpending, hfree]

theorem delivered_eq : delivered s = delivered t := by
  obtain ⟨-, -, -, hrsp⟩ := h.handshakes_eq
  obtain ⟨-, -, -, hres, -, -, -, hstat, -⟩ := h
  rw [delivered, delivered, hrsp, hres, hstat]

/-- A pending answer is matched by one with the same `err` and the same flip bit. -/
theorem exists_answer {a : CcRsp} (ha : s.answer = some a) :
    ∃ b, t.answer = some b ∧ a.err = b.err ∧ flipBit a.data = flipBit b.data := by
  obtain ⟨-, -, -, -, -, -, -, -, -, -, -, -, hanswer⟩ := h
  rw [ha, Option.map_some, eq_comm, Option.map_eq_some_iff] at hanswer
  obtain ⟨b, hb, heq⟩ := hanswer
  obtain ⟨herr, hflip⟩ := Prod.mk.inj heq
  exact ⟨b, hb, herr.symm, hflip.symm⟩

end observations

/-! ## The operations keep the relation -/

section operations
variable {s t : State} (h : sameButSecrets s t)
include h

theorem advance_congr : sameButSecrets (advance s) (advance t) := by
  obtain ⟨hkeyed, hbuf, hflip, hres, hi, hn, hfmt, hstat, hphase, hvalid, hpins, henv, hanswer⟩ := h
  exact ⟨hkeyed, hbuf, hflip, hres, hi, hn, hfmt, hstat, hphase, hvalid, by simp [henv], by simp [henv], hanswer⟩

theorem resetEdge_congr : sameButSecrets (resetEdge s) (resetEdge t) := by
  obtain ⟨-, -, -, -, -, -, -, -, -, -, hpins, henv, -⟩ := h
  exact ⟨rfl, rfl, rfl, rfl, rfl, rfl, rfl, rfl, rfl, rfl, hpins, henv, rfl⟩

theorem enterResp_congr (st : Status) (d : Block) : sameButSecrets (enterResp st d s) (enterResp st d t) := by
  obtain ⟨hkeyed, -, -, -, -, -, -, -, -, hvalid, hpins, henv, hanswer⟩ := h
  exact ⟨hkeyed, rfl, rfl, rfl, rfl, rfl, rfl, rfl, rfl, hvalid, hpins, henv, hanswer⟩

theorem sendRsp_congr : sameButSecrets (sendRsp s) (sendRsp t) := by
  obtain ⟨hkeyed, hbuf, hflip, -, hi, hn, hfmt, -, -, hvalid, hpins, henv, hanswer⟩ := h
  exact ⟨hkeyed, hbuf, hflip, rfl, hi, hn, hfmt, rfl, rfl, hvalid, hpins, henv, hanswer⟩

theorem clearKeyed_congr : sameButSecrets (clearKeyed s) (clearKeyed t) := by
  obtain ⟨-, hrest⟩ := h
  exact ⟨rfl, hrest⟩

/-- Two Padding Blocks may differ. -/
theorem setKeyed_congr (p q : Block) : sameButSecrets (setKeyed p s) (setKeyed q t) := by
  obtain ⟨-, hrest⟩ := h
  exact ⟨rfl, hrest⟩

theorem startLoop_congr (j : Job) : sameButSecrets (startLoop j s) (startLoop j t) := by
  obtain ⟨hkeyed, -, -, hres, -, -, -, hstat, -, hvalid, hpins, henv, hanswer⟩ := h
  exact ⟨hkeyed, rfl, rfl, hres, rfl, rfl, rfl, hstat, rfl, hvalid, hpins, henv, hanswer⟩

/-- The pending answer leaves the core. -/
theorem clearAnswer_congr : sameButSecrets { s with answer := none } { t with answer := none } := by
  obtain ⟨hkeyed, hbuf, hflip, hres, hi, hn, hfmt, hstat, hphase, hvalid, hpins, henv, -⟩ := h
  exact ⟨hkeyed, hbuf, hflip, hres, hi, hn, hfmt, hstat, hphase, hvalid, hpins, henv, rfl⟩

/-- The staged key may differ. -/
theorem enterPhase_congr (p : Phase) (k l : KeyWord) :
    sameButSecrets { s with kreg := k, phase := p } { t with kreg := l, phase := p } := by
  obtain ⟨hkeyed, hbuf, hflip, hres, hi, hn, hfmt, hstat, -, hvalid, hpins, henv, hanswer⟩ := h
  exact ⟨hkeyed, hbuf, hflip, hres, hi, hn, hfmt, hstat, rfl, hvalid, hpins, henv, hanswer⟩

theorem acceptConstruct_congr (keylen : BitVec 8) (key : KeyWord) :
    sameButSecrets (acceptConstruct keylen key s) (acceptConstruct keylen key t) := by
  unfold acceptConstruct
  split
  · exact h.enterResp_congr _ _
  · exact h.clearKeyed_congr.enterPhase_congr _ _ _

theorem acceptScramble_congr (j : Job) : sameButSecrets (acceptScramble j s) (acceptScramble j t) := by
  have hkeyed : s.keyed = t.keyed := h.1
  unfold acceptScramble
  rw [hkeyed]
  split
  · exact h.enterResp_congr _ _
  split
  · exact h.enterResp_congr _ _
  split
  · exact h.enterResp_congr _ _
  · exact h.startLoop_congr j

section answers
variable {a b : CcRsp} (herr : a.err = b.err)
include herr

theorem keyAnswered_congr : sameButSecrets (keyAnswered a s) (keyAnswered b t) := by
  unfold keyAnswered
  rw [herr]
  split
  · exact h.enterResp_congr _ _
  · exact h.enterPhase_congr _ _ _

theorem padAnswered_congr : sameButSecrets (padAnswered a s) (padAnswered b t) := by
  unfold padAnswered
  rw [herr]
  split
  · exact h.enterResp_congr _ _
  · exact (h.setKeyed_congr _ _).enterResp_congr _ _

/-- A round reads nothing of the ciphertext but its flip bit (rule R153). -/
theorem rndAnswered_congr (hbit : flipBit a.data = flipBit b.data) :
    sameButSecrets (rndAnswered a s) (rndAnswered b t) := by
  have ⟨hkeyed, hbuf, hflip, hres, hi, hn, hfmt, hstat, hphase, hvalid, hpins, henv, hanswer⟩ := h
  have hnext : nextFlip a s = nextFlip b t := by rw [nextFlip, nextFlip, hflip, hi, hbit]
  unfold rndAnswered
  rw [herr, hi, hn, hnext, hfmt, hbuf]
  split
  · exact h.enterResp_congr _ _
  split
  · exact ⟨hkeyed, rfl, rfl, hres, rfl, rfl, rfl, hstat, rfl, hvalid, hpins, henv, hanswer⟩
  · exact h.enterResp_congr _ _

end answers

end operations

/-! ## One edge -/

/-- An edge at which no request is taken is matched, from a state that differs in secrets only, by an edge to such a
state. -/
theorem exists_matching_edge {s t u : State} (h : sameButSecrets s t) (he : Edge s u) (hq : reqTaken s = false) :
    ∃ v, Edge t v ∧ sameButSecrets u v := by
  obtain ⟨hcmd, hreq, hans, hrsp⟩ := h.handshakes_eq
  have ⟨_, _, _, _, _, _, _, _, hphase, _, hpins, _⟩ := h
  cases he with
  | reset hr => exact ⟨_, .reset (hpins ▸ hr), h.resetEdge_congr⟩
  | construct hc hd => exact ⟨_, .construct (hcmd ▸ hc) (hpins ▸ hd), h.acceptConstruct_congr _ _⟩
  | drop hc hd => exact ⟨_, .drop (hcmd ▸ hc) (hpins ▸ hd), h.clearKeyed_congr.enterResp_congr _ _⟩
  | scramble hc hd hj => exact ⟨_, .scramble (hcmd ▸ hc) (hpins ▸ hd) hj, h.acceptScramble_congr _⟩
  | illegal hc hd => exact ⟨_, .illegal (hcmd ▸ hc) (hpins ▸ hd), h.enterResp_congr _ _⟩
  | loadkey _ hreqs => rw [hq] at hreqs; cases hreqs
  | encryptSeed _ hreqs => rw [hq] at hreqs; cases hreqs
  | encryptRound _ hreqs => rw [hq] at hreqs; cases hreqs
  | keyAnswer hp ha hs =>
    obtain ⟨b, hb, herr, -⟩ := h.exists_answer hs
    exact ⟨_, .keyAnswer (hphase ▸ hp) (hans ▸ ha) hb, h.clearAnswer_congr.keyAnswered_congr herr⟩
  | padAnswer hp ha hs =>
    obtain ⟨b, hb, herr, -⟩ := h.exists_answer hs
    exact ⟨_, .padAnswer (hphase ▸ hp) (hans ▸ ha) hb, h.clearAnswer_congr.padAnswered_congr herr⟩
  | rndAnswer hp ha hs =>
    obtain ⟨b, hb, herr, hbit⟩ := h.exists_answer hs
    exact ⟨_, .rndAnswer (hphase ▸ hp) (hans ▸ ha) hb, h.clearAnswer_congr.rndAnswered_congr herr hbit⟩
  | deliver hp => exact ⟨_, .deliver (hrsp ▸ hp), h.sendRsp_congr⟩
  | wait hr hh =>
    have hht : handshake t = false := by rw [← hh, handshake, handshake, hcmd, hreq, hans, hrsp]
    exact ⟨_, .wait (hpins ▸ hr) hht, h⟩

end sameButSecrets

/-- Settles O44: no port looks at a secret, and an edge without a request is matched by the same edge. -/
theorem secretsReachNoResponse : Obligations.SecretsReachNoResponse := by
  intro s t h
  refine ⟨h.delivered_eq, fun hq => ?_⟩
  obtain ⟨-, hreq, -⟩ := h.handshakes_eq
  obtain ⟨u, hu⟩ := exists_edge s
  obtain ⟨v, hv, huv⟩ := h.exists_matching_edge hu hq
  exact ⟨hreq ▸ hq, _, _, step_of_edge hu, step_of_edge hv, huv.advance_congr⟩

end Sys2Proof.Machine
end

section
/-! The instruction of an edge: the command word on the wires, the request that the phase offers, or the row placed for
it; and the response that an edge delivers (rules R56, R58, R104, R105, R197). -/

namespace Sys2Proof.Machine

/-! ## What a fetched instruction is and does -/

/-- A legal command word accepted at an edge is what the step runs (rule R56). -/
theorem exec_then_advance_of_command {s : State} {i : Instr} (hc : cmdTaken s = true)
    (hd : decodeCmd s.pins.cmdHdr s.pins.cmdData = .ok i) :
    ∃ t, exec i s = .next t ∧ step s = .next (advance t) := by
  obtain ⟨t, ht⟩ := exec_isNext i s
  exact ⟨t, ht, step_of_command hc hd ht⟩

/-- A request taken at an edge is what the step runs (rule R104). -/
theorem exec_then_advance_of_request {s : State} {i : Instr} (hq : reqTaken s = true)
    (hi : decodeCcReq (ccReqWord s) = i) : ∃ t, exec i s = .next t ∧ step s = .next (advance t) := by
  subst hi
  obtain ⟨t, ht⟩ := exec_isNext (decodeCcReq (ccReqWord s)) s
  exact ⟨t, ht, step_of_request hq ht⟩

/-- Settles O8: the command on the wires and the request of each `_REQ` phase are what the edge fetches. -/
theorem stepRunsTheFetchedInstruction : Obligations.StepRunsTheFetchedInstruction := by
  refine ⟨fun s i hr hp hv hd => ?_, fun s hr hready hnone => ⟨fun hp => ?_, fun hp => ?_, fun hp => ?_⟩,
    fun _ => rfl⟩
  · exact exec_then_advance_of_command ((cmdTaken_iff s).2 ⟨hr, hp, hv⟩) hd
  · exact exec_then_advance_of_request ((reqTaken_iff s).2 ⟨hr, .inl hp, hready, hnone⟩)
      (offeredRequest_of_keyReq hp)
  · exact exec_then_advance_of_request ((reqTaken_iff s).2 ⟨hr, .inr (.inl hp), hready, hnone⟩)
      (offeredRequest_of_padReq hp)
  · exact exec_then_advance_of_request ((reqTaken_iff s).2 ⟨hr, .inr (.inr hp), hready, hnone⟩)
      (offeredRequest_of_rndReq hp)

/-! ## A row placed for the next step -/

/-- The first half of the Key is the cipher key (rules R52, R76). -/
@[simp] theorem cipherKey_append (hi lo : Block) : cipherKey (hi ++ lo) = hi :=
  BitVec.extractLsb'_append_eq_left

/-- The second half of the Key is the padding seed (rules R52, R76). -/
@[simp] theorem paddingSeed_append (hi lo : Block) : paddingSeed (hi ++ lo) = lo :=
  BitVec.extractLsb'_append_eq_right

theorem cmdTaken_offerCmd (hdr : Header) (data : CmdData) (s : State) : cmdTaken (offerCmd hdr data s) = true :=
  (cmdTaken_iff _).2 ⟨rfl, rfl, rfl⟩

theorem reqTaken_offerCcReq (w : CcReqWord) (s : State) : reqTaken (offerCcReq w s) = true := by
  rw [reqTaken_iff]
  refine ⟨rfl, ?_, rfl, rfl⟩
  cases hk : w[128]
  · exact .inl (by simp [offerCcReq, hk])
  · exact .inr (.inl (by simp [offerCcReq, hk]))

/-- The request that the block is made to offer is the one placed, whichever half of KREG holds its operand
(rule R105). -/
theorem offeredRequest_offerCcReq (w : CcReqWord) (s : State) :
    decodeCcReq (ccReqWord (offerCcReq w s)) = decodeCcReq w := by
  cases hk : w[128]
  · rw [offeredRequest_of_keyReq (by simp [offerCcReq, hk])]
    simp [offerCcReq, decodeCcReq, hk]
  · rw [offeredRequest_of_padReq (by simp [offerCcReq, hk])]
    simp [offerCcReq, decodeCcReq, hk]

/-- The decoder reads an instruction from a row exactly when the row is a channel word that decodes to it. -/
theorem decodeTableWord_eq_some_iff {nbits w : Nat} {i : Instr} :
    decodeTableWord nbits w = some i ↔ ∃ cw, tableWord nbits w = some cw ∧ decode cw = .ok i := by
  unfold decodeTableWord
  cases tableWord nbits w with
  | none => simp
  | some cw => cases hd : decode cw <;> simp [hd]

/-- Settles O9: a CMD row is accepted, and a CCREQ row is the request the block offers. -/
theorem stepRunsTheRowPlacedForIt : Obligations.StepRunsTheRowPlacedForIt := by
  intro s nbits w i h
  obtain ⟨cw, hcw, hd⟩ := decodeTableWord_eq_some_iff.1 h
  have hplaced : s.withFetchWord nbits w = offerWord cw s := by rw [State.withFetchWord, hcw]
  rw [hplaced]
  cases cw with
  | cmd hdr data => exact exec_then_advance_of_command (cmdTaken_offerCmd hdr data s) hd
  | ccReq word =>
    obtain rfl : decodeCcReq word = i := Except.ok.inj hd
    exact exec_then_advance_of_request (reqTaken_offerCcReq word s) (offeredRequest_offerCcReq word s)

/-! ## Edges at which a channel transfers nothing -/

theorem cmdTaken_eq_false_of_phase {s : State} (hp : s.phase ≠ .idle) : cmdTaken s = false := by
  simp [← Bool.not_eq_true, cmdTaken_iff, hp]

theorem cmdTaken_eq_false_of_cmdValid {s : State} (hv : s.pins.cmdValid = false) : cmdTaken s = false := by
  simp [cmdTaken, hv]

theorem rspTaken_eq_false_of_phase {s : State} (hp : s.phase ≠ .resp) : rspTaken s = false := by
  simp [← Bool.not_eq_true, rspTaken_iff, hp]

theorem reqTaken_eq_false_of_phase {s : State} (hk : s.phase ≠ .keyReq) (hp : s.phase ≠ .padReq)
    (hr : s.phase ≠ .rndReq) : reqTaken s = false := by
  simp [← Bool.not_eq_true, reqTaken_iff, hk, hp, hr]

theorem ansTaken_eq_false_of_phase {s : State} (hk : s.phase ≠ .keyWait) (hp : s.phase ≠ .padWait)
    (hr : s.phase ≠ .rndWait) : ansTaken s = false := by
  simp [← Bool.not_eq_true, ansTaken_iff, hk, hp, hr]

theorem handshake_eq_false_iff (s : State) :
    handshake s = false ↔ cmdTaken s = false ∧ reqTaken s = false ∧ ansTaken s = false ∧ rspTaken s = false := by
  simp [handshake, and_assoc]

/-! ## Delivering the response -/

/-- Settles O34: RESP serves the RSP channel only, so a host that is not ready leaves the block waiting. -/
theorem responseIsDeliveredAndTheBlockIdles : Obligations.ResponseIsDeliveredAndTheBlockIdles := by
  intro s hr hp
  refine ⟨fun hready => ?_, fun hready => ?_⟩
  · have ht : rspTaken s = true := (rspTaken_iff s).2 ⟨hr, hp, hready⟩
    exact ⟨if_pos ht, step_of_response ht⟩
  · have ht : rspTaken s = false := by simp [← Bool.not_eq_true, rspTaken_iff, hready]
    have hc : cmdTaken s = false := cmdTaken_eq_false_of_phase (by simp [hp])
    have hq : reqTaken s = false := reqTaken_eq_false_of_phase (by simp [hp]) (by simp [hp]) (by simp [hp])
    have ha : ansTaken s = false := ansTaken_eq_false_of_phase (by simp [hp]) (by simp [hp]) (by simp [hp])
    exact ⟨by simp [delivered, ht], step_of_wait hr ((handshake_eq_false_iff s).2 ⟨hc, hq, ha, ht⟩)⟩

end Sys2Proof.Machine
end

section
/-! The command wires outside a CMD handshake (rules R60, R66, R235). -/

namespace Sys2Proof.Machine

/-! ## The answer of a round, case by case (rules R150, R151) -/

theorem rndAnswered_of_err {a : CcRsp} (herr : a.err = true) (s : State) :
    rndAnswered a s = enterResp .encryptionError 0#128 s := if_pos herr

theorem rndAnswered_of_next {a : CcRsp} {s : State} (herr : a.err = false) (hnext : s.i + 1#8 < s.n) :
    rndAnswered a s = { s with flip := nextFlip a s, i := s.i + 1#8, phase := .rndReq } := by
  simp [rndAnswered, herr, hnext]

theorem rndAnswered_of_last {a : CcRsp} {s : State} (herr : a.err = false) (hlast : ¬ s.i + 1#8 < s.n) :
    rndAnswered a s = enterResp .ok (deliver s.fmt (s.buf ^^^ nextFlip a s)) s := by
  simp [rndAnswered, herr, hlast]

/-! ## Other values on the wires -/

/-- `s` with other values on the command wires at the coming edge. -/
def withCommandWires (v : Bool) (hdr : Header) (data : CmdData) (s : State) : State :=
  { s with pins := { s.pins with cmdValid := v, cmdHdr := hdr, cmdData := data } }

section wires
variable (v : Bool) (hdr : Header) (data : CmdData)

/-- The passage to the next edge drops the wires of this one. -/
theorem advance_withCommandWires (s : State) : advance (withCommandWires v hdr data s) = advance s := rfl

theorem handshake_withCommandWires {s : State} (hc : cmdTaken s = false)
    (hc' : cmdTaken (withCommandWires v hdr data s) = false) :
    handshake (withCommandWires v hdr data s) = handshake s := by
  rw [handshake, handshake, hc, hc']
  rfl

/-! The reactions to an answer do not look at the wires. -/

theorem keyAnswered_withCommandWires (a : CcRsp) (s : State) :
    keyAnswered a (withCommandWires v hdr data s) = withCommandWires v hdr data (keyAnswered a s) := by
  unfold keyAnswered
  split <;> rfl

theorem padAnswered_withCommandWires (a : CcRsp) (s : State) :
    padAnswered a (withCommandWires v hdr data s) = withCommandWires v hdr data (padAnswered a s) := by
  unfold padAnswered
  split <;> rfl

theorem rndAnswered_withCommandWires (a : CcRsp) (s : State) :
    rndAnswered a (withCommandWires v hdr data s) = withCommandWires v hdr data (rndAnswered a s) := by
  obtain ⟨herr, heq⟩ | ⟨herr, hnext, heq⟩ | ⟨herr, hlast, heq⟩ := rndAnswered_cases a s <;> rw [heq]
  · exact rndAnswered_of_err herr _
  · exact rndAnswered_of_next (s := withCommandWires v hdr data s) herr hnext
  · exact rndAnswered_of_last (s := withCommandWires v hdr data s) herr hlast

/-- Where no command is accepted, with the old wires or with the new, the same edge happens under both. -/
theorem Edge.congr_commandWires {s u : State} (he : Edge s u) (hc : cmdTaken s = false)
    (hc' : cmdTaken (withCommandWires v hdr data s) = false) :
    Edge (withCommandWires v hdr data s) (withCommandWires v hdr data u) := by
  cases he with
  | reset hr => exact .reset hr
  | construct h => rw [hc] at h; cases h
  | drop h => rw [hc] at h; cases h
  | scramble h => rw [hc] at h; cases h
  | illegal h => rw [hc] at h; cases h
  | loadkey hp hq => exact .loadkey hp hq
  | encryptSeed hp hq => exact .encryptSeed hp hq
  | encryptRound hp hq => exact .encryptRound hp hq
  | keyAnswer hp ha hs => rw [← keyAnswered_withCommandWires]; exact .keyAnswer hp ha hs
  | padAnswer hp ha hs => rw [← padAnswered_withCommandWires]; exact .padAnswer hp ha hs
  | rndAnswer hp ha hs => rw [← rndAnswered_withCommandWires]; exact .rndAnswer hp ha hs
  | deliver hp => exact .deliver hp
  | wait hr hh => exact .wait hr ((handshake_withCommandWires v hdr data hc hc').trans hh)

theorem step_withCommandWires {s : State} (hc : cmdTaken s = false)
    (hc' : cmdTaken (withCommandWires v hdr data s) = false) :
    step (withCommandWires v hdr data s) = step s := by
  obtain ⟨u, he⟩ := exists_edge s
  rw [step_of_edge he, step_of_edge (he.congr_commandWires v hdr data hc hc'), advance_withCommandWires]

end wires

/-- Settles O14: outside IDLE, and without `cmd_valid`, there is no CMD handshake, whatever else the wires hold. -/
theorem commandWiresMatterOnlyAtTheirHandshake : Obligations.CommandWiresMatterOnlyAtTheirHandshake := by
  intro s hdr data
  refine ⟨fun hp v => ?_, fun hv => ?_⟩
  · exact step_withCommandWires v hdr data (cmdTaken_eq_false_of_phase hp)
      (cmdTaken_eq_false_of_phase (s := withCommandWires v hdr data s) hp)
  · exact step_withCommandWires s.pins.cmdValid hdr data (cmdTaken_eq_false_of_cmdValid hv)
      (cmdTaken_eq_false_of_cmdValid (s := withCommandWires s.pins.cmdValid hdr data s) hv)

end Sys2Proof.Machine
end

section
/-! What comes in and what goes out, counted over a run: commands and responses, cipher requests and answers
(rules R62, R63, R104). -/

namespace Sys2Proof.Machine

/-! ## Counting over a run -/

/-- If at every edge without reset the words that enter and those under way before are as many as the words that leave
and those under way after, the same holds over a run without reset. -/
theorem trace_length_balance {α β : Type} {enters : State → Option α} {leaves : State → Option β}
    {underWay : State → Nat}
    (hedge : ∀ {s u : State}, Edge s u → s.pins.rst = false →
      (enters s).toList.length + underWay s = (leaves s).toList.length + underWay (advance u))
    {k : Nat} {s t : State} (hr : ∀ j, j < k → (s.pinsAt j).rst = false) (hrun : run k s = .next t) :
    (trace enters k s).length + underWay s = (trace leaves k s).length + underWay t := by
  induction k generalizing s with
  | zero =>
    obtain rfl : s = t := Host.Outcome.next.inj hrun
    rfl
  | succ k ih =>
    obtain ⟨u, he⟩ := exists_edge s
    have hstep := step_of_edge he
    rw [run_succ_of_step hstep] at hrun
    have hnow := hedge he (hr 0 (Nat.succ_pos k))
    have hlater := ih (s := advance u) (he.forall_pinsAt_advance (P := fun p => p.rst = false) hr) hrun
    rw [trace_succ_of_step enters hstep, trace_succ_of_step leaves hstep, List.length_append, List.length_append]
    omega

theorem accepted_length (s : State) : (accepted s).toList.length = (cmdTaken s).toNat := by
  cases h : cmdTaken s <;> simp [accepted, h]

theorem delivered_length (s : State) : (delivered s).toList.length = (rspTaken s).toNat := by
  cases h : rspTaken s <;> simp [delivered, h]

theorem requested_length (s : State) : (requested s).toList.length = (reqTaken s).toNat := by
  cases h : reqTaken s <;> simp [requested, h]

/-- The answer that leaves the core at the coming edge, if any (rule R104). -/
def answerLeaving (s : State) : Option CcRsp := if ansTaken s then s.answer else none

theorem answerLeaving_length (s : State) : (answerLeaving s).toList.length = (ansTaken s).toNat := by
  cases h : ansTaken s
  · simp [answerLeaving, h]
  · obtain ⟨-, -, -, hsome⟩ := (ansTaken_iff s).1 h
    obtain ⟨a, ha⟩ := Option.isSome_iff_exists.1 hsome
    simp [answerLeaving, h, ha]

/-! ## Commands and responses -/

theorem acceptConstruct_phase_ne_idle (keylen : BitVec 8) (key : KeyWord) (s : State) :
    (acceptConstruct keylen key s).phase ≠ .idle := by
  obtain ⟨-, heq⟩ | ⟨-, heq⟩ := acceptConstruct_cases keylen key s <;> simp [heq]

theorem acceptScramble_phase_ne_idle (j : Job) (s : State) : (acceptScramble j s).phase ≠ .idle := by
  obtain ⟨-, heq⟩ | ⟨-, -, heq⟩ | ⟨-, -, heq⟩ | ⟨-, -, -, heq⟩ := acceptScramble_cases j s <;> simp [heq]

theorem keyAnswered_phase_ne_idle (a : CcRsp) (s : State) : (keyAnswered a s).phase ≠ .idle := by
  obtain ⟨-, heq⟩ | ⟨-, heq⟩ := keyAnswered_cases a s <;> simp [heq]

theorem padAnswered_phase_ne_idle (a : CcRsp) (s : State) : (padAnswered a s).phase ≠ .idle := by
  obtain ⟨-, heq⟩ | ⟨-, heq⟩ := padAnswered_cases a s <;> simp [heq]

theorem rndAnswered_phase_ne_idle (a : CcRsp) (s : State) : (rndAnswered a s).phase ≠ .idle := by
  obtain ⟨-, heq⟩ | ⟨-, -, heq⟩ | ⟨-, -, heq⟩ := rndAnswered_cases a s <;> simp [heq]

/-- After an edge without reset the block is idle exactly when it delivered its response there, or was idle and
accepted no command (rules R42, R56, R58). -/
theorem Edge.phase_eq_idle_iff {s u : State} (he : Edge s u) (hr : s.pins.rst = false) :
    u.phase = .idle ↔ rspTaken s = true ∨ (s.phase = .idle ∧ cmdTaken s = false) := by
  have hcommand (hc : cmdTaken s = true) {v : State} (hv : v.phase ≠ .idle) :
      v.phase = .idle ↔ rspTaken s = true ∨ (s.phase = .idle ∧ cmdTaken s = false) := by
    obtain ⟨-, hidle, -⟩ := (cmdTaken_iff s).1 hc
    simp [hv, hc, rspTaken_iff, hidle]
  cases he with
  | reset h => rw [hr] at h; cases h
  | construct hc => exact hcommand hc (acceptConstruct_phase_ne_idle _ _ s)
  | drop hc => exact hcommand hc (by simp [acceptDrop])
  | scramble hc => exact hcommand hc (acceptScramble_phase_ne_idle _ s)
  | illegal hc => exact hcommand hc (by simp [acceptIllegal])
  | loadkey hp => simp [rspTaken_iff, hp, Phase.afterRequest]
  | encryptSeed hp => simp [rspTaken_iff, hp, Phase.afterRequest]
  | encryptRound hp => simp [rspTaken_iff, hp, Phase.afterRequest]
  | keyAnswer hp => simp [rspTaken_iff, hp, keyAnswered_phase_ne_idle]
  | padAnswer hp => simp [rspTaken_iff, hp, padAnswered_phase_ne_idle]
  | rndAnswer hp => simp [rspTaken_iff, hp, rndAnswered_phase_ne_idle]
  | deliver hp => simp [hp]
  | wait _ hh =>
    obtain ⟨hc, -, -, hp⟩ := (handshake_eq_false_iff s).1 hh
    simp [hc, hp]

/-- The number of commands in progress: none in IDLE, one in every other phase (rule R62). -/
def commandsInProgress (s : State) : Nat := if s.phase = .idle then 0 else 1

/-- One edge takes the command in, sends its response out, or does neither. -/
theorem Edge.command_balance {s u : State} (he : Edge s u) (hr : s.pins.rst = false) :
    (accepted s).toList.length + commandsInProgress s =
      (delivered s).toList.length + commandsInProgress (advance u) := by
  have hu := he.phase_eq_idle_iff hr
  rw [accepted_length, delivered_length, commandsInProgress, commandsInProgress, advance_phase]
  by_cases hc : cmdTaken s = true
  · obtain ⟨-, hidle, -⟩ := (cmdTaken_iff s).1 hc
    have hp : rspTaken s = false := rspTaken_eq_false_of_phase (by simp [hidle])
    simp [hu, hc, hp, hidle]
  · by_cases hp : rspTaken s = true
    · obtain ⟨-, hresp, -⟩ := (rspTaken_iff s).1 hp
      simp [hu, hc, hp, hresp]
    · simp [hu, hc, hp]

/-- Settles O42: every edge keeps the balance of commands and responses. -/
theorem everyCommandGetsOneResponse : Obligations.EveryCommandGetsOneResponse :=
  fun _ _ _ hr hrun => trace_length_balance (underWay := commandsInProgress) Edge.command_balance hr hrun

/-! ## Cipher requests and answers -/

theorem acceptConstruct_answer (keylen : BitVec 8) (key : KeyWord) (s : State) :
    (acceptConstruct keylen key s).answer = s.answer := by
  obtain ⟨-, heq⟩ | ⟨-, heq⟩ := acceptConstruct_cases keylen key s <;> simp [heq]

theorem acceptScramble_answer (j : Job) (s : State) : (acceptScramble j s).answer = s.answer := by
  obtain ⟨-, heq⟩ | ⟨-, -, heq⟩ | ⟨-, -, heq⟩ | ⟨-, -, -, heq⟩ := acceptScramble_cases j s <;> simp [heq]

theorem keyAnswered_answer (a : CcRsp) (s : State) : (keyAnswered a s).answer = s.answer := by
  obtain ⟨-, heq⟩ | ⟨-, heq⟩ := keyAnswered_cases a s <;> simp [heq]

theorem padAnswered_answer (a : CcRsp) (s : State) : (padAnswered a s).answer = s.answer := by
  obtain ⟨-, heq⟩ | ⟨-, heq⟩ := padAnswered_cases a s <;> simp [heq]

theorem rndAnswered_answer (a : CcRsp) (s : State) : (rndAnswered a s).answer = s.answer := by
  obtain ⟨-, heq⟩ | ⟨-, -, heq⟩ | ⟨-, -, heq⟩ := rndAnswered_cases a s <;> simp [heq]

/-- After an edge without reset the core holds a request exactly when it took one there, or held one whose answer was
not taken (rules R63, R104). -/
theorem Edge.answer_isSome_iff {s u : State} (he : Edge s u) (hr : s.pins.rst = false) :
    u.answer.isSome = true ↔ reqTaken s = true ∨ (s.answer.isSome = true ∧ ansTaken s = false) := by
  have hother (hq : reqTaken s = false) (ha : ansTaken s = false) {v : State} (hv : v.answer = s.answer) :
      v.answer.isSome = true ↔ reqTaken s = true ∨ (s.answer.isSome = true ∧ ansTaken s = false) := by
    simp [hv, hq, ha]
  have hcommand (hc : cmdTaken s = true) {v : State} (hv : v.answer = s.answer) :
      v.answer.isSome = true ↔ reqTaken s = true ∨ (s.answer.isSome = true ∧ ansTaken s = false) := by
    obtain ⟨-, hidle, -⟩ := (cmdTaken_iff s).1 hc
    exact hother (reqTaken_eq_false_of_phase (by simp [hidle]) (by simp [hidle]) (by simp [hidle]))
      (ansTaken_eq_false_of_phase (by simp [hidle]) (by simp [hidle]) (by simp [hidle])) hv
  cases he with
  | reset h => rw [hr] at h; cases h
  | construct hc => exact hcommand hc (acceptConstruct_answer _ _ s)
  | drop hc => exact hcommand hc rfl
  | scramble hc => exact hcommand hc (acceptScramble_answer _ s)
  | illegal hc => exact hcommand hc rfl
  | loadkey _ hq => simp [hq]
  | encryptSeed _ hq => simp [hq]
  | encryptRound _ hq => simp [hq]
  | keyAnswer hp ha => simp [keyAnswered_answer, ha, reqTaken_iff, hp]
  | padAnswer hp ha => simp [padAnswered_answer, ha, reqTaken_iff, hp]
  | rndAnswer hp ha => simp [rndAnswered_answer, ha, reqTaken_iff, hp]
  | deliver hd =>
    obtain ⟨-, hp, -⟩ := (rspTaken_iff s).1 hd
    exact hother (reqTaken_eq_false_of_phase (by simp [hp]) (by simp [hp]) (by simp [hp]))
      (ansTaken_eq_false_of_phase (by simp [hp]) (by simp [hp]) (by simp [hp])) rfl
  | wait _ hh =>
    obtain ⟨-, hq, ha, -⟩ := (handshake_eq_false_iff s).1 hh
    exact hother hq ha rfl

/-- The number of requests pending in the core (rule R63). -/
def requestsPending (s : State) : Nat := s.answer.toList.length

theorem requestsPending_eq (s : State) : requestsPending s = s.answer.isSome.toNat := by
  cases h : s.answer <;> simp [requestsPending, h]

/-- One edge brings a request to the core, takes its answer away, or does neither. -/
theorem Edge.request_balance {s u : State} (he : Edge s u) (hr : s.pins.rst = false) :
    (requested s).toList.length + requestsPending s =
      (answerLeaving s).toList.length + requestsPending (advance u) := by
  have hu := he.answer_isSome_iff hr
  rw [requested_length, answerLeaving_length, requestsPending_eq, requestsPending_eq, advance_answer]
  by_cases hq : reqTaken s = true
  · obtain ⟨-, -, -, hnone⟩ := (reqTaken_iff s).1 hq
    have ha : ansTaken s = false := by simp [← Bool.not_eq_true, ansTaken_iff, hnone]
    rw [hu.2 (.inl hq)]
    simp [hq, ha, hnone]
  · by_cases ha : ansTaken s = true
    · obtain ⟨-, -, -, hsome⟩ := (ansTaken_iff s).1 ha
      have hgone : u.answer.isSome = false := by simp [← Bool.not_eq_true, hu, hq, ha]
      simp only [hgone, hq, ha, hsome]
      rfl
    · have hkept : u.answer.isSome = s.answer.isSome := Bool.eq_iff_iff.2 (by simp [hu, hq, ha])
      simp [hq, ha, hkept]

/-- Settles O43: every edge keeps the balance of requests and answers, the core taking a request only when none is
pending; so the premise on the first state is not needed. -/
theorem everyCipherRequestGetsOneAnswer : Obligations.EveryCipherRequestGetsOneAnswer :=
  fun _ _ _ hr _ hrun => trace_length_balance (underWay := requestsPending) Edge.request_balance hr hrun

end Sys2Proof.Machine
end

section
/-! Command and request words: the header's fields as numbers, the rows of the opcode map, and decoding against
encoding (rules R70 to R73, R76, R81, R83 to R85). -/

namespace Sys2Proof
open Machine

/-! ## The fields of a header as numbers (rule R71) -/

/-- A field of `len` bits from bit `start` on is the number above the bits below it. -/
theorem extractLsb'_eq_ofNat_div {w : Nat} (x : BitVec w) (start len : Nat) :
    x.extractLsb' start len = BitVec.ofNat len (x.toNat / 2 ^ start) := by
  rw [BitVec.extractLsb', Nat.shiftRight_eq_div_pow]

theorem extractLsb'_zero_eq_ofNat {w : Nat} (x : BitVec w) (len : Nat) :
    x.extractLsb' 0 len = BitVec.ofNat len x.toNat := by
  simp [extractLsb'_eq_ofNat_div]

theorem Header.op_toNat (hdr : Header) : (Header.op hdr).toNat = hdr.toNat / 2 ^ 28 := by
  have hlt : hdr.toNat < 2 ^ 32 := hdr.isLt
  rw [Header.op, extractLsb'_eq_ofNat_div, BitVec.toNat_ofNat]
  omega

theorem Header.rsv1_toNat (hdr : Header) : (Header.rsv1 hdr).toNat = hdr.toNat / 2 ^ 25 % 8 := by
  rw [Header.rsv1, extractLsb'_eq_ofNat_div, BitVec.toNat_ofNat]

theorem Header.rsv0_toNat (hdr : Header) : (Header.rsv0 hdr).toNat = hdr.toNat / 2 ^ 16 % 256 := by
  rw [Header.rsv0, extractLsb'_eq_ofNat_div, BitVec.toNat_ofNat]

theorem Header.ver_eq_false_iff (hdr : Header) : Header.ver hdr = false ↔ hdr.toNat / 2 ^ 24 % 2 = 0 := by
  simp [Header.ver, BitVec.getLsbD, Nat.testBit_eq_decide_div_mod_eq]

/-- The reserved fields of a header are zero (rules R71, R84). -/
def Header.ReservedClear (hdr : Header) : Prop := Header.rsv1 hdr = 0#3 ∧ Header.rsv0 hdr = 0#8

theorem Header.reservedClear_iff (hdr : Header) :
    Header.ReservedClear hdr ↔ hdr.toNat / 2 ^ 25 % 8 = 0 ∧ hdr.toNat / 2 ^ 16 % 256 = 0 := by
  rw [← Header.rsv1_toNat, ← Header.rsv0_toNat, Header.ReservedClear, ← BitVec.toNat_inj, ← BitVec.toNat_inj]
  rfl

/-- A reserved bit is set (rules R83, R84). -/
theorem Header.not_reservedClear_iff (hdr : Header) :
    ¬ Header.ReservedClear hdr ↔ hdr.toNat / 2 ^ 25 % 8 ≠ 0 ∨ hdr.toNat / 2 ^ 16 % 256 ≠ 0 := by
  rw [Header.reservedClear_iff, not_and_or]

/-- The header under its mask keeps OP, RSV1 and RSV0 at their places (rule R72). -/
theorem masked_eq_fields (hdr : Header) :
    hdr &&& headerMask = Header.op hdr ++ Header.rsv1 hdr ++ 0#1 ++ Header.rsv0 hdr ++ 0#16 := by
  apply BitVec.eq_of_getLsbD_eq
  intro i hi
  simp only [headerMask, Header.op, Header.rsv1, Header.rsv0, BitVec.getLsbD_and, BitVec.getLsbD_append,
    BitVec.getLsbD_extractLsb']
  interval_cases i <;> simp

theorem masked_toNat (hdr : Header) :
    (hdr &&& headerMask).toNat =
      (Header.op hdr).toNat * 2 ^ 28 + (Header.rsv1 hdr).toNat * 2 ^ 25 + (Header.rsv0 hdr).toNat * 2 ^ 16 := by
  simp only [masked_eq_fields, toNat_append_eq_mul_add, BitVec.toNat_ofNat]
  omega

/-- The masked header is an opcode alone exactly when that is its OP and nothing reserved is set (rules R72, R84). -/
theorem masked_toNat_eq_iff (hdr : Header) (k : Nat) :
    (hdr &&& headerMask).toNat = k * 2 ^ 28 ↔ Header.ReservedClear hdr ∧ (Header.op hdr).toNat = k := by
  have h1 : (Header.rsv1 hdr).toNat < 8 := (Header.rsv1 hdr).isLt
  have h0 : (Header.rsv0 hdr).toNat < 256 := (Header.rsv0 hdr).isLt
  rw [masked_toNat, Header.ReservedClear, ← BitVec.toNat_inj, ← BitVec.toNat_inj, BitVec.toNat_ofNat,
    BitVec.toNat_ofNat]
  omega

/-! ## The rows of the opcode map (rule R83) -/

/-- `CmdRow hdr data r`: the row of the opcode map that `cmd_hdr` selects makes `r` of the command word. -/
inductive CmdRow (hdr : Header) (data : CmdData) : Except DecodeError Instr → Prop
  | reservedBits (hres : ¬ Header.ReservedClear hdr) : CmdRow hdr data (.error .reservedBits)
  | construct (hres : Header.ReservedClear hdr) (hop : (Header.op hdr).toNat = 1) :
      CmdRow hdr data (.ok (.construct (Header.keylen hdr) data))
  | scramble (hres : Header.ReservedClear hdr) (hop : (Header.op hdr).toNat = 2) :
      CmdRow hdr data (.ok (.scramble (Header.nbits hdr) (CmdData.low128 data)))
  | scrambleIpv4 (hres : Header.ReservedClear hdr) (hop : (Header.op hdr).toNat = 3) :
      CmdRow hdr data (.ok (.scrambleIpv4 (CmdData.low32 data)))
  | scrambleIpv6 (hres : Header.ReservedClear hdr) (hop : (Header.op hdr).toNat = 4) :
      CmdRow hdr data (.ok (.scrambleIpv6 (CmdData.low128 data)))
  | scrambleIpOfV4 (hres : Header.ReservedClear hdr) (hop : (Header.op hdr).toNat = 5)
      (hver : Header.ver hdr = false) : CmdRow hdr data (.ok (.scrambleIp (.v4 (CmdData.low32 data))))
  | scrambleIpOfV6 (hres : Header.ReservedClear hdr) (hop : (Header.op hdr).toNat = 5)
      (hver : Header.ver hdr = true) : CmdRow hdr data (.ok (.scrambleIp (.v6 (CmdData.low128 data))))
  | drop (hres : Header.ReservedClear hdr) (hop : (Header.op hdr).toNat = 6) : CmdRow hdr data (.ok .drop)
  | reservedOp (hres : Header.ReservedClear hdr)
      (hop : (Header.op hdr).toNat = 0 ∨ 7 ≤ (Header.op hdr).toNat) : CmdRow hdr data (.error .reservedOp)

/-- The decoder follows the row of the opcode map. -/
theorem decodeCmd_of_row {hdr : Header} {data : CmdData} {r : Except DecodeError Instr} (h : CmdRow hdr data r) :
    decodeCmd hdr data = r := by
  unfold decodeCmd
  cases h with
  | reservedBits hres => rw [if_pos (not_and_or.1 hres)]
  | construct hres hop | scramble hres hop | scrambleIpv4 hres hop | scrambleIpv6 hres hop | drop hres hop =>
    simp [hres.1, hres.2, hop]
  | scrambleIpOfV4 hres hop hver | scrambleIpOfV6 hres hop hver => simp [hres.1, hres.2, hop, hver]
  | reservedOp hres hop =>
    simp only [hres.1, hres.2, ne_eq, not_true_eq_false, or_self, if_false]
    split
    case h_7 => rfl
    all_goals omega

/-- Every command word has its row. -/
theorem exists_cmdRow (hdr : Header) (data : CmdData) : ∃ r, CmdRow hdr data r := by
  by_cases hres : Header.ReservedClear hdr
  · have hop : (Header.op hdr).toNat = 1 ∨ (Header.op hdr).toNat = 2 ∨ (Header.op hdr).toNat = 3 ∨
        (Header.op hdr).toNat = 4 ∨ (Header.op hdr).toNat = 5 ∨ (Header.op hdr).toNat = 6 ∨
        (Header.op hdr).toNat = 0 ∨ 7 ≤ (Header.op hdr).toNat := by omega
    obtain hop | hop | hop | hop | hop | hop | hop := hop
    · exact ⟨_, .construct hres hop⟩
    · exact ⟨_, .scramble hres hop⟩
    · exact ⟨_, .scrambleIpv4 hres hop⟩
    · exact ⟨_, .scrambleIpv6 hres hop⟩
    · cases hver : Header.ver hdr with
      | false => exact ⟨_, .scrambleIpOfV4 hres hop hver⟩
      | true => exact ⟨_, .scrambleIpOfV6 hres hop hver⟩
    · exact ⟨_, .drop hres hop⟩
    · exact ⟨_, .reservedOp hres hop⟩
  · exact ⟨_, .reservedBits hres⟩

/-- The rows are exactly what the decoder answers. -/
theorem decodeCmd_eq_iff {hdr : Header} {data : CmdData} {r : Except DecodeError Instr} :
    decodeCmd hdr data = r ↔ CmdRow hdr data r := by
  refine ⟨?_, decodeCmd_of_row⟩
  rintro rfl
  obtain ⟨r, hrow⟩ := exists_cmdRow hdr data
  rwa [decodeCmd_of_row hrow]

/-- A word that decodes to a command has nothing reserved set, and its OP is the match value of the command
(rule R72). -/
theorem CmdRow.tableMatch_eq {hdr : Header} {data : CmdData} {i : Instr} (h : CmdRow hdr data (.ok i)) :
    Header.ReservedClear hdr ∧ i.tableMatch = (Header.op hdr).toNat * 2 ^ 28 := by
  cases h with
  | construct hres hop | scramble hres hop | scrambleIpv4 hres hop | scrambleIpv6 hres hop
  | scrambleIpOfV4 hres hop _ | scrambleIpOfV6 hres hop _ | drop hres hop =>
    exact ⟨hres, by simp [Instr.tableMatch, hop]⟩

/-- A header with nothing reserved set and the OP of a command decodes to that command (rule R83). -/
theorem exists_command_of_op {hdr : Header} (data : CmdData) (hres : Header.ReservedClear hdr)
    (hpos : 1 ≤ (Header.op hdr).toNat) (hle : (Header.op hdr).toNat ≤ 6) : ∃ i, CmdRow hdr data (.ok i) := by
  obtain ⟨r, hrow⟩ := exists_cmdRow hdr data
  cases r with
  | ok i => exact ⟨i, hrow⟩
  | error e =>
    cases hrow with
    | reservedBits hbad => exact absurd hres hbad
    | reservedOp _ hop => omega

/-- A reserved bit or a reserved opcode makes the word illegal (rules R83, R84). -/
theorem exists_error_of_reserved {hdr : Header} (data : CmdData)
    (h : ¬ Header.ReservedClear hdr ∨ (Header.op hdr).toNat = 0 ∨ 7 ≤ (Header.op hdr).toNat) :
    ∃ e, CmdRow hdr data (.error e) := by
  by_cases hres : Header.ReservedClear hdr
  · exact ⟨_, .reservedOp hres (h.resolve_left (not_not.2 hres))⟩
  · exact ⟨_, .reservedBits hres⟩

/-- The match value of a command is one of the opcodes 1 to 6 in bits 31:28 (rule R72). -/
theorem tableMatch_of_command {i : Instr} (h : i.wellFormedOn .cmd = true) :
    ∃ k, 1 ≤ k ∧ k ≤ 6 ∧ i.tableMatch = k * 2 ^ 28 := by
  cases i with
  | construct => exact ⟨1, by simp [Instr.tableMatch]⟩
  | scramble => exact ⟨2, by simp [Instr.tableMatch]⟩
  | scrambleIpv4 => exact ⟨3, by simp [Instr.tableMatch]⟩
  | scrambleIpv6 => exact ⟨4, by simp [Instr.tableMatch]⟩
  | scrambleIp => exact ⟨5, by simp [Instr.tableMatch]⟩
  | drop => exact ⟨6, by simp [Instr.tableMatch]⟩
  | loadkey => cases h
  | encrypt => cases h

/-! ## Decoding an encoded word (rules R71, R73, R81) -/

theorem encodeHeader_toNat (op : BitVec 4) (ver : Bool) (keylen nbits : BitVec 8) :
    (encodeHeader op ver keylen nbits).toNat =
      op.toNat * 2 ^ 28 + ver.toNat * 2 ^ 24 + keylen.toNat * 2 ^ 8 + nbits.toNat := by
  simp only [encodeHeader, toNat_append_eq_mul_add, BitVec.toNat_ofNat, BitVec.toNat_ofBool]
  omega

section encodedFields
variable (op : BitVec 4) (ver : Bool) (keylen nbits : BitVec 8)

/-- The fields of an encoded header below OP leave room for it and do not run into each other. -/
theorem encodeHeader_fields_lt : ver.toNat < 2 ∧ keylen.toNat < 256 ∧ nbits.toNat < 256 :=
  ⟨Bool.toNat_lt ver, keylen.isLt, nbits.isLt⟩

@[simp] theorem op_encodeHeader : Header.op (encodeHeader op ver keylen nbits) = op := by
  obtain ⟨hver, hkeylen, hnbits⟩ := encodeHeader_fields_lt ver keylen nbits
  apply BitVec.eq_of_toNat_eq
  rw [Header.op_toNat, encodeHeader_toNat]
  omega

theorem reservedClear_encodeHeader : Header.ReservedClear (encodeHeader op ver keylen nbits) := by
  obtain ⟨hver, hkeylen, hnbits⟩ := encodeHeader_fields_lt ver keylen nbits
  rw [Header.reservedClear_iff, encodeHeader_toNat]
  omega

@[simp] theorem ver_encodeHeader : Header.ver (encodeHeader op ver keylen nbits) = ver := by
  obtain ⟨hver, hkeylen, hnbits⟩ := encodeHeader_fields_lt ver keylen nbits
  rw [Bool.eq_iff_iff, ← not_iff_not, Bool.not_eq_true, Bool.not_eq_true, Header.ver_eq_false_iff,
    encodeHeader_toNat, ← Bool.toNat_eq_zero]
  omega

@[simp] theorem keylen_encodeHeader : Header.keylen (encodeHeader op ver keylen nbits) = keylen := by
  obtain ⟨hver, hkeylen, hnbits⟩ := encodeHeader_fields_lt ver keylen nbits
  apply BitVec.eq_of_toNat_eq
  rw [Header.keylen, extractLsb'_eq_ofNat_div, BitVec.toNat_ofNat, encodeHeader_toNat]
  omega

@[simp] theorem nbits_encodeHeader : Header.nbits (encodeHeader op ver keylen nbits) = nbits :=
  BitVec.extractLsb'_append_eq_right

end encodedFields

@[simp] theorem low128_append (hi lo : BitVec 128) : CmdData.low128 (hi ++ lo) = lo :=
  BitVec.extractLsb'_append_eq_right

@[simp] theorem low32_append (hi : BitVec 224) (lo : Addr4) : CmdData.low32 (hi ++ lo) = lo :=
  BitVec.extractLsb'_append_eq_right

/-- An instruction encodes to a word of its own channel (rules R72, R81). -/
theorem channel_encode (i : Instr) : (encode i).channel = i.channel := by
  cases i with
  | scrambleIp addr => cases addr <;> rfl
  | _ => rfl

/-- The decoder undoes the encoder, for every instruction and every operand. -/
theorem decode_encode (i : Instr) : decode (encode i) = .ok i := by
  have hres := reservedClear_encodeHeader
  cases i with
  | construct keylen key =>
    simpa [encode, decode] using decodeCmd_of_row (data := key)
      (.construct (hres 0x1#4 false keylen 0#8) (by simp))
  | scramble nbits buffer =>
    simpa [encode, decode] using decodeCmd_of_row (data := 0#128 ++ buffer)
      (.scramble (hres 0x2#4 false 0#8 nbits) (by simp))
  | scrambleIpv4 addr4 =>
    simpa [encode, decode] using decodeCmd_of_row (data := 0#224 ++ addr4)
      (.scrambleIpv4 (hres 0x3#4 false 0#8 0#8) (by simp))
  | scrambleIpv6 addr6 =>
    simpa [encode, decode] using decodeCmd_of_row (data := 0#128 ++ addr6)
      (.scrambleIpv6 (hres 0x4#4 false 0#8 0#8) (by simp))
  | scrambleIp addr =>
    cases addr with
    | v4 addr4 =>
      simpa [encode, decode] using decodeCmd_of_row (data := 0#224 ++ addr4)
        (.scrambleIpOfV4 (hres 0x5#4 false 0#8 0#8) (by simp) (by simp))
    | v6 addr6 =>
      simpa [encode, decode] using decodeCmd_of_row (data := 0#128 ++ addr6)
        (.scrambleIpOfV6 (hres 0x5#4 true 0#8 0#8) (by simp) (by simp))
  | drop => exact decodeCmd_of_row (data := 0#256) (.drop (hres 0x6#4 false 0#8 0#8) (by simp))
  | loadkey key => exact congrArg Except.ok (decodeCcReq_encodeCcReq false key)
  | encrypt block => exact congrArg Except.ok (decodeCcReq_encodeCcReq true block)

/-- A 288-bit number is read from the opcode table as the fields of the command word (rule R70). -/
theorem tableWord_cmdWord (hdr : Header) (data : CmdData) :
    tableWord 288 (cmdWord hdr data).toNat = some (.cmd hdr data) := by
  have hhdr : (cmdWord hdr data).toNat / 2 ^ 256 = hdr.toNat := by
    have hdata : data.toNat < 2 ^ 256 := data.isLt
    rw [cmdWord, toNat_append_eq_mul_add]
    omega
  have hdata : BitVec.ofNat 256 (cmdWord hdr data).toNat = data := by
    rw [← extractLsb'_zero_eq_ofNat]
    exact data_cmdWord hdr data
  have hlt : hdr.toNat < 2 ^ 32 := hdr.isLt
  rw [tableWord, if_neg (by decide), if_pos rfl, hhdr, if_pos hlt, hdata, BitVec.ofNat_toNat, BitVec.setWidth_eq]

/-! ## The bits an opcode uses (rules R76, R85) -/

/-- Two words that agree under a mask agree in every field that the mask covers. -/
theorem extractLsb'_eq_of_and_eq {w start len : Nat} {x y m : BitVec w} (h : x &&& m = y &&& m)
    (hm : m.extractLsb' start len = BitVec.allOnes len) : x.extractLsb' start len = y.extractLsb' start len := by
  simpa [BitVec.extractLsb'_and, hm] using congrArg (BitVec.extractLsb' start len) h

/-- Every opcode uses OP, RSV1 and RSV0 (rules R72, R84). -/
theorem usedHeaderBits_covers_selector (hdr : Header) :
    (usedHeaderBits hdr).extractLsb' 28 4 = BitVec.allOnes 4 ∧
    (usedHeaderBits hdr).extractLsb' 25 3 = BitVec.allOnes 3 ∧
    (usedHeaderBits hdr).extractLsb' 16 8 = BitVec.allOnes 8 := by
  unfold usedHeaderBits
  split <;> decide

/-- Two headers that agree on the used bits have the same OP and both or neither a reserved bit set. -/
theorem selector_eq_of_and_eq {hdr hdr' : Header} (h : hdr &&& usedHeaderBits hdr = hdr' &&& usedHeaderBits hdr) :
    Header.op hdr = Header.op hdr' ∧ (Header.ReservedClear hdr ↔ Header.ReservedClear hdr') := by
  obtain ⟨hop, hrsv1, hrsv0⟩ := usedHeaderBits_covers_selector hdr
  have ersv1 : Header.rsv1 hdr = Header.rsv1 hdr' := extractLsb'_eq_of_and_eq h hrsv1
  have ersv0 : Header.rsv0 hdr = Header.rsv0 hdr' := extractLsb'_eq_of_and_eq h hrsv0
  exact ⟨extractLsb'_eq_of_and_eq h hop, by rw [Header.ReservedClear, ersv1, ersv0, Header.ReservedClear]⟩

/-- The operand of the low 128 bits, from words that agree on it (rule R73, formats B, A6 and AV). -/
theorem low128_eq_of_and_eq {data data' : CmdData}
    (h : data &&& (BitVec.allOnes 128).setWidth 256 = data' &&& (BitVec.allOnes 128).setWidth 256) :
    CmdData.low128 data = CmdData.low128 data' :=
  extractLsb'_eq_of_and_eq h (by decide)

/-- The operand of the low 32 bits, from words that agree on it (rule R73, formats A4 and AV). -/
theorem low32_eq_of_and_eq {data data' : CmdData}
    (h : data &&& (BitVec.allOnes 32).setWidth 256 = data' &&& (BitVec.allOnes 32).setWidth 256) :
    CmdData.low32 data = CmdData.low32 data' :=
  extractLsb'_eq_of_and_eq h (by decide)

/-- SCRAMBLE_IP uses VER (rule R85). -/
theorem ver_eq_of_and_eq {hdr hdr' : Header} (hop : (Header.op hdr).toNat = 5)
    (h : hdr &&& usedHeaderBits hdr = hdr' &&& usedHeaderBits hdr) : Header.ver hdr = Header.ver hdr' := by
  have hbit := congrArg (BitVec.getLsbD · 24) h
  simpa [usedHeaderBits, hop, Header.ver] using hbit

/-- A row depends on nothing but the bits its opcode uses. -/
theorem CmdRow.of_agree {hdr hdr' : Header} {data data' : CmdData} {r : Except DecodeError Instr}
    (h : CmdRow hdr data r) (hh : hdr &&& usedHeaderBits hdr = hdr' &&& usedHeaderBits hdr)
    (hd : data &&& usedDataBits hdr = data' &&& usedDataBits hdr) : CmdRow hdr' data' r := by
  obtain ⟨eop, eres⟩ := selector_eq_of_and_eq hh
  cases h with
  | reservedBits hres => exact .reservedBits (mt eres.2 hres)
  | construct hres hop =>
    have ekeylen : Header.keylen hdr = Header.keylen hdr' :=
      extractLsb'_eq_of_and_eq hh (by simp only [usedHeaderBits, hop]; decide)
    simp only [usedDataBits, hop, BitVec.and_allOnes] at hd
    rw [ekeylen, hd]
    exact .construct (eres.1 hres) (eop ▸ hop)
  | scramble hres hop =>
    have enbits : Header.nbits hdr = Header.nbits hdr' :=
      extractLsb'_eq_of_and_eq hh (by simp only [usedHeaderBits, hop]; decide)
    simp only [usedDataBits, hop] at hd
    rw [enbits, low128_eq_of_and_eq hd]
    exact .scramble (eres.1 hres) (eop ▸ hop)
  | scrambleIpv4 hres hop =>
    simp only [usedDataBits, hop] at hd
    rw [low32_eq_of_and_eq hd]
    exact .scrambleIpv4 (eres.1 hres) (eop ▸ hop)
  | scrambleIpv6 hres hop =>
    simp only [usedDataBits, hop] at hd
    rw [low128_eq_of_and_eq hd]
    exact .scrambleIpv6 (eres.1 hres) (eop ▸ hop)
  | scrambleIpOfV4 hres hop hver =>
    simp only [usedDataBits, hop, hver, Bool.false_eq_true, if_false] at hd
    rw [low32_eq_of_and_eq hd]
    exact .scrambleIpOfV4 (eres.1 hres) (eop ▸ hop) (ver_eq_of_and_eq hop hh ▸ hver)
  | scrambleIpOfV6 hres hop hver =>
    simp only [usedDataBits, hop, hver, if_true] at hd
    rw [low128_eq_of_and_eq hd]
    exact .scrambleIpOfV6 (eres.1 hres) (eop ▸ hop) (ver_eq_of_and_eq hop hh ▸ hver)
  | drop hres hop => exact .drop (eres.1 hres) (eop ▸ hop)
  | reservedOp hres hop => exact .reservedOp (eres.1 hres) (eop ▸ hop)

/-! ## The statements about encodings -/

/-- Settles O1: the encoder stays on the instruction's channel, and the decoder undoes it. -/
theorem decodingAnEncodedInstructionGivesItBack : Obligations.DecodingAnEncodedInstructionGivesItBack := by
  intro c i hwf
  have hc : i.channel = c := beq_iff_eq.1 hwf
  exact ⟨(channel_encode i).trans hc, decode_encode i⟩

/-- Settles O3: the fields' numbers turn the arithmetic into the rows of the opcode map. -/
theorem decodingFollowsTheOpcodeMap : Obligations.DecodingFollowsTheOpcodeMap := by
  intro hdr data
  classical
  simp only [← Header.not_reservedClear_iff, ← Header.op_toNat, ← Header.ver_eq_false_iff,
    ← extractLsb'_eq_ofNat_div, ← extractLsb'_zero_eq_ofNat]
  obtain ⟨r, hrow⟩ := exists_cmdRow hdr data
  rw [decodeCmd_of_row hrow]
  cases hrow with
  | reservedBits hres => simp [hres]
  | construct hres hop => simp [hres, hop, Header.keylen]
  | scramble hres hop => simp [hres, hop, Header.nbits, CmdData.low128]
  | scrambleIpv4 hres hop => simp [hres, hop, CmdData.low32]
  | scrambleIpv6 hres hop => simp [hres, hop, CmdData.low128]
  | scrambleIpOfV4 hres hop hver => simp [hres, hop, hver, CmdData.low32]
  | scrambleIpOfV6 hres hop hver => simp [hres, hop, hver, CmdData.low128]
  | drop hres hop => simp [hres, hop]
  | reservedOp hres hop =>
    have hne : ∀ k, 1 ≤ k → k ≤ 6 → (Header.op hdr).toNat ≠ k := by omega
    simp [hres, hne]

/-- Settles O4: both sides say that nothing reserved is set and that OP is the command's. -/
theorem maskedHeaderSelectsTheCommand : Obligations.MaskedHeaderSelectsTheCommand := by
  intro hdr data i hwf
  constructor
  · intro hmask
    obtain ⟨k, hpos, hle, hk⟩ := tableMatch_of_command hwf
    obtain ⟨hres, rfl⟩ := (masked_toNat_eq_iff hdr k).1 (hmask.trans hk)
    obtain ⟨j, hrow⟩ := exists_command_of_op data hres hpos hle
    exact ⟨j, decodeCmd_of_row hrow, hrow.tableMatch_eq.2.trans hk.symm⟩
  · rintro ⟨j, hj, hji⟩
    obtain ⟨hres, hmatch⟩ := (decodeCmd_eq_iff.1 hj).tableMatch_eq
    rw [← hji, hmatch]
    exact (masked_toNat_eq_iff hdr _).2 ⟨hres, rfl⟩

/-- Settles O5: the row of one word is the row of the other. -/
theorem ignoredBitsHaveNoEffectOnDecoding : Obligations.IgnoredBitsHaveNoEffectOnDecoding := by
  intro hdr hdr' data data' hh hd
  obtain ⟨r, hrow⟩ := exists_cmdRow hdr data
  rw [decodeCmd_of_row hrow, decodeCmd_of_row (hrow.of_agree hh hd)]

/-- Settles O2: the decoder evaluated on the twelve words. -/
theorem writtenWordsDecode : Obligations.WrittenWordsDecode := by
  unfold Obligations.WrittenWordsDecode
  decide

/-- Settles O6: a row of the opcode map holds a command, and a request's kind selects one of the two requests. -/
theorem decodedInstructionBelongsToItsChannel : Obligations.DecodedInstructionBelongsToItsChannel := by
  intro w i h
  cases w with
  | cmd hdr data =>
    have hrow : CmdRow hdr data (.ok i) := decodeCmd_eq_iff.1 h
    cases hrow <;> rfl
  | ccReq word =>
    obtain rfl : decodeCcReq word = i := Except.ok.inj h
    unfold decodeCcReq
    split <;> rfl

/-- Settles O10: every edge is one of the relation's cases, and each leads on. -/
theorem everyStepAnswersANextState : Obligations.EveryStepAnswersANextState := by
  intro s
  obtain ⟨u, hu⟩ := exists_edge s
  exact ⟨advance u, step_of_edge hu⟩

/-- Settles O15: the word's row is an error, and IDLE offers no request. -/
theorem illegalWordIsAnsweredAtOnce : Obligations.IllegalWordIsAnsweredAtOnce := by
  intro s hr hp hv hbad
  have hc : cmdTaken s = true := (cmdTaken_iff s).2 ⟨hr, hp, hv⟩
  have hq : reqTaken s = false := reqTaken_eq_false_of_phase (by simp [hp]) (by simp [hp]) (by simp [hp])
  rw [← or_assoc, ← Header.not_reservedClear_iff, ← Header.op_toNat] at hbad
  obtain ⟨e, hrow⟩ := exists_error_of_reserved s.pins.cmdData hbad
  exact ⟨step_of_illegal hc (decodeCmd_of_row hrow), by simp [accepted, hc], by simp [requested, hq]⟩

/-- Settles O58: every word is an append of its fields. -/
theorem wordsAreTheirFieldsInOrder : Obligations.WordsAreTheirFieldsInOrder := by
  refine ⟨fun hdr data => ⟨toNat_append_eq_mul_add _ _, ?_, tableWord_cmdWord hdr data⟩,
    fun w => BitVec.extractLsb'_append_extractLsb', fun r => toNat_append_eq_mul_add _ _,
    fun kind data => ⟨?_, ?_⟩, fun a => ?_⟩
  · rw [decodeCmdWord, hdr_cmdWord, data_cmdWord]
  · rw [encodeCcReq, toNat_append_eq_mul_add, BitVec.toNat_ofBool]
  · rw [encodeCcReq, BitVec.getLsbD_append]
    simp
  · rw [CcRsp.word, toNat_append_eq_mul_add, BitVec.toNat_ofBool]

end Sys2Proof
end

section
/-! The cipher requests: what the block offers by phase, and what the core makes of it (rules R105 to R107). -/

namespace Sys2Proof.Machine

/-! ## The request word as a number (rules R70, R105) -/

theorem ccReqWord_toNat (s : State) :
    (ccReqWord s).toNat = (ccReqKind s).toNat * 2 ^ 128 + (ccReqData s).toNat := by
  rw [ccReqWord, encodeCcReq, toNat_append_eq_mul_add, BitVec.toNat_ofBool]

theorem cipherKey_toNat (k : KeyWord) : (cipherKey k).toNat = k.toNat / 2 ^ 128 := by
  have hlt : k.toNat < 2 ^ 256 := k.isLt
  rw [cipherKey, extractLsb'_eq_ofNat_div, BitVec.toNat_ofNat]
  omega

theorem paddingSeed_toNat (k : KeyWord) : (paddingSeed k).toNat = k.toNat % 2 ^ 128 := by
  rw [paddingSeed, extractLsb'_zero_eq_ofNat, BitVec.toNat_ofNat]

/-- Where no request is offered, every line of the request port is zero (rule R105). -/
theorem ccReqWord_of_no_request {s : State} (h : ccReqValid s = false) : ccReqWord s = 0#129 := by
  obtain ⟨hkey, hpad, hrnd⟩ : s.phase ≠ .keyReq ∧ s.phase ≠ .padReq ∧ s.phase ≠ .rndReq := by
    simpa [← Bool.not_eq_true] using h
  have hkind : ccReqKind s = false := by simp [ccReqKind, hpad, hrnd]
  have hdata : ccReqData s = 0#128 := by
    unfold ccReqData
    split
    case h_1 hp => exact absurd hp hkey
    case h_2 hp => exact absurd hp hpad
    case h_3 hp => exact absurd hp hrnd
    case h_4 => rfl
  rw [ccReqWord, hkind, hdata]
  decide

/-- Settles O11: in each `_REQ` phase the kind and the operand, in the others nothing. -/
theorem cipherRequestPortsFollowThePhase : Obligations.CipherRequestPortsFollowThePhase := by
  intro s
  refine ⟨fun hp => ⟨(ccReqValid_iff s).2 (.inl hp), ?_⟩, fun hp => ⟨(ccReqValid_iff s).2 (.inr (.inl hp)), ?_⟩,
    fun hp => ⟨(ccReqValid_iff s).2 (.inr (.inr hp)), ?_⟩, fun hkey hpad hrnd => ?_⟩
  · rw [ccReqWord_toNat]
    simp [ccReqKind, ccReqData, hp, cipherKey_toNat]
  · rw [ccReqWord_toNat]
    simp [ccReqKind, ccReqData, hp, paddingSeed_toNat]
  · rw [ccReqWord_toNat]
    simp [ccReqKind, ccReqData, hp, padded]
  · have hnone : ccReqValid s = false := by simp [← Bool.not_eq_true, hkey, hpad, hrnd]
    exact ⟨hnone, ccReqWord_of_no_request hnone⟩

/-! ## The core's side -/

/-- Settles O30: the values left open are the core's draw. -/
theorem loadkeySetsTheCoresKey : Obligations.LoadkeySetsTheCoresKey := fun s k =>
  ⟨decodeCcReq_encodeCcReq false k, loadkeyCk k s.pins.draw, s.pins.draw.data, rfl, fun hok => if_pos hok⟩

/-- Settles O31: the answer is that of `encryptReply`, which has a valid key and no failure drawn, or fails. -/
theorem encryptAnswersTheCiphertextOrFails : Obligations.EncryptAnswersTheCiphertextOrFails := by
  intro s b
  refine ⟨decodeCcReq_encodeCcReq true b, encryptReply s.ckValid s.ck b s.pins.draw, rfl, ?_⟩
  obtain ⟨hvalid, hdraw, heq⟩ | ⟨hfail, heq⟩ := encryptReply_cases s.ckValid s.ck b s.pins.draw
  · rw [heq]
    simp [hvalid, hdraw]
  · refine ⟨fun _ => by rw [heq], fun hvalid hdraw => ?_, fun _ _ => by rw [heq]⟩
    simp [hvalid, hdraw] at hfail

end Sys2Proof.Machine
end

section
/-! Stretches of edges at which every one has a handshake, with what they deliver and request. A stretch is put
together edge by edge; the proofs about whole commands follow its construction (rules R62, R110, R238). -/

namespace Sys2Proof.Machine

/-! ## A stretch of edges -/

/-- `Exchange k s t rsps reqs`: `k` edges, each with a handshake, lead from `s` to `t`, deliver the responses `rsps`
and make the cipher requests `reqs`. -/
structure Exchange (k : Nat) (s t : State) (rsps : List Rsp) (reqs : List Instr) : Prop where
  run : run k s = .next t
  delivered : trace delivered k s = rsps
  requested : trace requested k s = reqs
  handshakes : handshakes k s = k

theorem Exchange.refl (s : State) : Exchange 0 s s [] [] := ⟨rfl, rfl, rfl, rfl⟩

/-- One edge with a handshake before a stretch. -/
theorem Exchange.after_edge {k : Nat} {s u t : State} {rsps : List Rsp} {reqs : List Instr} (he : Edge s u)
    (hh : handshake s = true) (h : Exchange k (advance u) t rsps reqs) :
    Exchange (k + 1) s t ((Machine.delivered s).toList ++ rsps) ((Machine.requested s).toList ++ reqs) := by
  have hstep := step_of_edge he
  refine ⟨?_, ?_, ?_, ?_⟩
  · rw [run_succ_of_step hstep, h.run]
  · rw [trace_succ_of_step _ hstep, h.delivered]
  · rw [trace_succ_of_step _ hstep, h.requested]
  · have hrest := h.handshakes
    unfold Machine.handshakes at hrest ⊢
    rw [trace_succ_of_step _ hstep, List.length_append, hrest, if_pos hh]
    simp [Nat.add_comm]

section edges
variable {k : Nat} {s u t : State} {rsps : List Rsp} {reqs : List Instr}

/-- A command is accepted: nothing is delivered and nothing is requested (rule R56). -/
theorem Exchange.after_command (hc : cmdTaken s = true) (he : Edge s u) (h : Exchange k (advance u) t rsps reqs) :
    Exchange (k + 1) s t rsps reqs := by
  obtain ⟨-, hp, -⟩ := (cmdTaken_iff s).1 hc
  have hd : Machine.delivered s = none := by simp [Machine.delivered, rspTaken_iff, hp]
  have hq : Machine.requested s = none := by simp [Machine.requested, reqTaken_iff, hp]
  simpa [hd, hq] using h.after_edge he (by simp [handshake, hc])

/-- A request is taken by the core (rule R104). -/
theorem Exchange.after_request (hq : reqTaken s = true) (he : Edge s u) (h : Exchange k (advance u) t rsps reqs) :
    Exchange (k + 1) s t rsps (decodeCcReq (ccReqWord s) :: reqs) := by
  obtain ⟨-, hp, -⟩ := (reqTaken_iff s).1 hq
  have hd : Machine.delivered s = none := by
    obtain hp | hp | hp := hp <;> simp [Machine.delivered, rspTaken_iff, hp]
  simpa [hd, Machine.requested, hq] using h.after_edge he (by simp [handshake, hq])

/-- An answer is taken by the block (rule R104). -/
theorem Exchange.after_answer (ha : ansTaken s = true) (he : Edge s u) (h : Exchange k (advance u) t rsps reqs) :
    Exchange (k + 1) s t rsps reqs := by
  obtain ⟨-, hp, -⟩ := (ansTaken_iff s).1 ha
  have hd : Machine.delivered s = none := by
    obtain hp | hp | hp := hp <;> simp [Machine.delivered, rspTaken_iff, hp]
  have hq : Machine.requested s = none := by
    obtain hp | hp | hp := hp <;> simp [Machine.requested, reqTaken_iff, hp]
  simpa [hd, hq] using h.after_edge he (by simp [handshake, ha])

/-- The response is delivered (rule R58). -/
theorem Exchange.of_response (hr : rspTaken s = true) :
    Exchange 1 s (advance (sendRsp s)) [{ status := s.stat, data := s.res }] [] := by
  obtain ⟨-, hp, -⟩ := (rspTaken_iff s).1 hr
  have hq : Machine.requested s = none := by simp [Machine.requested, reqTaken_iff, hp]
  simpa [Machine.delivered, hr, hq] using
    (Exchange.refl (advance (sendRsp s))).after_edge (.deliver hr) (by simp [handshake, hr])

end edges

/-! ## A cooperating environment -/

theorem Pins.cooperates_iff (p : Pins) :
    p.cooperates = true ↔ p.rst = false ∧ p.rspReady = true ∧ p.ccReqReady = true ∧ p.ccRspValid = true := by
  simp [Pins.cooperates, and_assoc]

/-- Cooperation for `k` edges, edge by edge; the coming edge is not among them. -/
theorem cooperates_pinsAt {s : State} {k : Nat} (h : s.cooperates k = true) {j : Nat} (hj : j < k) :
    (s.pinsAt (j + 1)).cooperates = true := by
  obtain ⟨hlen, hall⟩ : k ≤ s.env.length ∧ (s.env.take k).all Pins.cooperates = true := by
    simpa only [State.cooperates, Bool.and_eq_true, decide_eq_true_eq] using h
  have hget : s.pinsAt (j + 1) = s.env[j] := by simp [State.pinsAt, show j < s.env.length by omega]
  rw [hget]
  refine List.all_eq_true.1 hall _ (List.mem_take_iff_getElem.2 ⟨j, ?_, rfl⟩)
  omega

/-- The signals after an advance are those of the second edge. -/
theorem advance_pins_eq_pinsAt (s : State) : (advance s).pins = s.pinsAt 1 := pinsAt_advance s 0

/-- Once the response is taken, only the architectural state is left (rules R35, R57, R58). -/
theorem sendRsp_enterResp {s : State} (hans : s.answer = none) (st : Status) (d : Block) :
    sendRsp (enterResp st d s) = idleWith s.arch s.pins s.env := by
  simp [sendRsp, enterResp, idleWith, State.reset, State.arch, hans]

/-- A block that has entered RESP delivers its response to a ready host and is left with its architectural state
alone (rules R35, R57, R58). -/
theorem exchange_response {s : State} (hans : s.answer = none) (hco : (s.pinsAt 1).cooperates = true) (st : Status)
    (d : Block) :
    Exchange 1 (advance (enterResp st d s)) (idleWith s.arch (s.pinsAt 2) (s.envAfter 2))
      [{ status := st, data := d }] [] := by
  obtain ⟨hrst, hready, -⟩ := (Pins.cooperates_iff _).1 hco
  have hpins : (advance (enterResp st d s)).pins = s.pinsAt 1 := advance_pins_eq_pinsAt s
  have ht : rspTaken (advance (enterResp st d s)) = true := by
    rw [rspTaken_iff, hpins]
    exact ⟨hrst, rfl, hready⟩
  have hend : advance (sendRsp (advance (enterResp st d s))) = idleWith s.arch (s.pinsAt 2) (s.envAfter 2) := by
    have hpins2 : (advance (advance s)).pinsAt 0 = s.pinsAt 2 := by simp
    have henv2 : (advance (advance s)).envAfter 0 = s.envAfter 2 := by simp
    rw [← hpins2, ← henv2]
    exact sendRsp_enterResp (s := advance (advance s)) hans st d
  rw [← hend]
  exact Exchange.of_response ht

end Sys2Proof.Machine
end

section
/-! The scramble commands on the machine and at transaction level (rules R110, R142, R154). -/

namespace Sys2Proof.Machine

/-! ## The rounds at transaction level -/

theorem txnRounds_of_err {buf : Block} {d : Nat → Draw} {a : Arch} {i : Nat}
    (herr : (encryptReply a.ckValid a.ck (padded buf a.pad i) (d i)).err = true) (left : Nat) (flip : Block) :
    txnRounds buf d a (left + 1) i flip = (none, [.encrypt (padded buf a.pad i)]) := by
  simp [txnRounds, herr]

theorem txnRounds_of_ok {buf : Block} {d : Nat → Draw} {a : Arch} {i : Nat} {ct : CcRsp}
    (hct : encryptReply a.ckValid a.ck (padded buf a.pad i) (d i) = ct) (herr : ct.err = false) (left : Nat)
    (flip : Block) :
    txnRounds buf d a (left + 1) i flip =
      ((txnRounds buf d a left (i + 1) (setFlip flip i (flipBit ct.data))).1,
        .encrypt (padded buf a.pad i) :: (txnRounds buf d a left (i + 1) (setFlip flip i (flipBit ct.data))).2) := by
  simp [txnRounds, hct, herr]

/-- With a valid key and no failing draw the rounds compute the flip mask of the pure transform and request the padded
blocks in ascending order (rules R110, R142, R152). -/
theorem txnRounds_of_no_failure {buf : Block} {d : Nat → Draw} {a : Arch} (hvalid : a.ckValid = true) (left i : Nat)
    (hdraw : ∀ p, p < i + left → (d p).err = false) :
    txnRounds buf d a left i (flipMask Config.E a.ck a.pad buf i) =
      (some (flipMask Config.E a.ck a.pad buf (i + left)),
        (List.range' i left).map fun p => .encrypt (padded buf a.pad p)) := by
  induction left generalizing i with
  | zero => rfl
  | succ left ih =>
    have hct : encryptReply a.ckValid a.ck (padded buf a.pad i) (d i) =
        { err := false, data := Config.E a.ck (padded buf a.pad i) } := by
      simp [encryptReply, hvalid, hdraw i (by omega)]
    have hrest := ih (i + 1) (fun p hp => hdraw p (by omega))
    rw [txnRounds_of_ok hct rfl]
    rw [flipMask] at hrest
    rw [hrest, Nat.add_right_comm, List.range'_succ, List.map_cons]
    rfl

/-- The response that the end of the rounds leads to (rules R142, R150, R151). -/
def roundsRsp (fmt : Bool) (buf : Block) : Option Block → Rsp
  | none => { status := .encryptionError, data := 0#128 }
  | some flip => { status := .ok, data := deliver fmt (buf ^^^ flip) }

/-- A scramble command that is neither refused nor out of range is its rounds (rule R142). -/
theorem txnScramble_of_keyed {j : Job} {a : Arch} (hk : a.keyed = true) (hn : ¬ 128#8 < j.n) (d : Nat → Draw) :
    txnScramble j d a =
      { arch := a, rsp := roundsRsp j.fmt j.buf0 (txnRounds j.buf0 d a j.n.toNat 0 0#128).1,
        requests := (txnRounds j.buf0 d a j.n.toNat 0 0#128).2 } := by
  simp only [txnScramble, hk, hn, Bool.true_eq_false, if_false]
  cases (txnRounds j.buf0 d a j.n.toNat 0 0#128).1 <;> rfl

/-! ## The rounds on the machine -/

/-- What the core answers to the round that is offered (rules R107, R149). -/
def roundReply (s : State) : CcRsp := encryptReply s.ckValid s.ck (padded s.buf s.pad s.i.toNat) s.pins.draw

/-- The block at the edge where it takes the answer of the round that `s` offers, without that answer (rule R149). -/
def roundWaiting (s : State) : State := { advance s with answer := none, phase := .rndWait }

@[simp] theorem roundWaiting_arch (s : State) : (roundWaiting s).arch = s.arch := rfl

@[simp] theorem roundWaiting_pinsAt (s : State) (j : Nat) : (roundWaiting s).pinsAt j = s.pinsAt (j + 1) :=
  pinsAt_advance s j

@[simp] theorem roundWaiting_envAfter (s : State) (k : Nat) : (roundWaiting s).envAfter k = s.envAfter (k + 1) :=
  envAfter_advance s k

/-- The block at the first edge of the round after the one that `s` offers (rule R150). -/
def nextRound (s : State) : State :=
  advance { roundWaiting s with flip := nextFlip (roundReply s) s, i := s.i + 1#8, phase := .rndReq }

@[simp] theorem nextRound_pinsAt (s : State) (j : Nat) : (nextRound s).pinsAt j = s.pinsAt (j + 2) := by
  rw [nextRound, pinsAt_advance]
  exact roundWaiting_pinsAt s (j + 1)

@[simp] theorem nextRound_envAfter (s : State) (k : Nat) : (nextRound s).envAfter k = s.envAfter (k + 2) := by
  rw [nextRound, envAfter_advance]
  exact roundWaiting_envAfter s (k + 1)

theorem advance_rndAnswered_of_next {s : State} (herr : (roundReply s).err = false) (hnext : s.i + 1#8 < s.n) :
    advance (rndAnswered (roundReply s) (roundWaiting s)) = nextRound s :=
  congrArg advance (rndAnswered_of_next (s := roundWaiting s) herr hnext)

/-- One round is two edges, the request and the answer (rules R149 to R151). -/
theorem Exchange.after_round {k : Nat} {s t : State} {rsps : List Rsp} {reqs : List Instr} (hp : s.phase = .rndReq)
    (hans : s.answer = none) (hco : s.pins.cooperates = true) (hco' : (s.pinsAt 1).cooperates = true)
    (h : Exchange k (advance (rndAnswered (roundReply s) (roundWaiting s))) t rsps reqs) :
    Exchange (k + 2) s t rsps (.encrypt (padded s.buf s.pad s.i.toNat) :: reqs) := by
  obtain ⟨hrst, -, hready, -⟩ := (Pins.cooperates_iff _).1 hco
  obtain ⟨hrst', -, -, hvalid⟩ := (Pins.cooperates_iff _).1 hco'
  rw [← advance_pins_eq_pinsAt] at hrst' hvalid
  have hq : reqTaken s = true := (reqTaken_iff s).2 ⟨hrst, .inr (.inr hp), hready, hans⟩
  let w := advance (takeEncrypt (padded s.buf s.pad s.i.toNat) s)
  have hw : w.phase = .rndWait := by simp [w, hp, Phase.afterRequest]
  have ha : ansTaken w = true := (ansTaken_iff w).2 ⟨hrst', .inr (.inr hw), hvalid, rfl⟩
  have hwait : roundWaiting s = { w with answer := none } := by rw [roundWaiting, ← hw]; rfl
  rw [hwait] at h
  rw [← offeredRequest_of_rndReq hp]
  exact (h.after_answer ha (.rndAnswer hw ha rfl)).after_request hq (.encryptRound hp hq)

/-- A round that ends the command: its two edges and the delivery of the response (rules R150, R151). -/
theorem exchange_last_round {s : State} {st : Status} {data : Block} (hp : s.phase = .rndReq) (hans : s.answer = none)
    (hco : ∀ j, j < 3 → (s.pinsAt j).cooperates = true)
    (hend : rndAnswered (roundReply s) (roundWaiting s) = enterResp st data (roundWaiting s)) :
    Exchange 3 s (idleWith s.arch (s.pinsAt 3) (s.envAfter 3)) [{ status := st, data := data }]
      [.encrypt (padded s.buf s.pad s.i.toNat)] := by
  refine Exchange.after_round hp hans (hco 0 (by decide)) (hco 1 (by decide)) ?_
  rw [hend]
  simpa using exchange_response (s := roundWaiting s) rfl (by simpa using hco 2 (by decide)) st data

/-- The rounds from position `i` on take the edges, make the requests and end as the loop of the transaction level
says, the first failing answer included (rules R142, R150, R151, R154). -/
theorem exchange_rounds {d : Nat → Draw} (left : Nat) {i : Nat} {s : State} (hp : s.phase = .rndReq)
    (hans : s.answer = none) (hi : s.i.toNat = i) (hpos : 0 < left) (hn : i + left = s.n.toNat)
    (hd : ∀ j, d (i + j) = (s.pinsAt (2 * j)).draw) {res : Option Block} {reqs : List Instr}
    (hloop : txnRounds s.buf d s.arch left i s.flip = (res, reqs))
    (hco : ∀ j, j < 2 * reqs.length + 1 → (s.pinsAt j).cooperates = true) :
    Exchange (2 * reqs.length + 1) s
      (idleWith s.arch (s.pinsAt (2 * reqs.length + 1)) (s.envAfter (2 * reqs.length + 1)))
      [roundsRsp s.fmt s.buf res] reqs := by
  induction left generalizing i s res reqs with
  | zero => omega
  | succ left ih =>
    subst hi
    have hct : encryptReply s.arch.ckValid s.arch.ck (padded s.buf s.arch.pad s.i.toNat) (d s.i.toNat) =
        roundReply s := by
      rw [show d s.i.toNat = s.pins.draw from hd 0]
      rfl
    cases herr : (roundReply s).err with
    | true =>
      rw [txnRounds_of_err (by rw [hct, herr])] at hloop
      obtain ⟨rfl, rfl⟩ := Prod.mk.inj hloop
      exact exchange_last_round hp hans hco (rndAnswered_of_err herr _)
    | false =>
      obtain ⟨res', reqs', hrounds⟩ : ∃ res' reqs', txnRounds s.buf d s.arch left (s.i.toNat + 1)
          (setFlip s.flip s.i.toNat (flipBit (roundReply s).data)) = (res', reqs') := ⟨_, _, rfl⟩
      rw [txnRounds_of_ok hct herr, hrounds] at hloop
      obtain ⟨rfl, rfl⟩ := Prod.mk.inj hloop
      by_cases hmore : s.i + 1#8 < s.n
      · have hi : (nextRound s).i.toNat = s.i.toNat + 1 := by
          change (s.i + 1#8).toNat = _
          bv_omega
        have hn' : s.i.toNat + 1 + left = (nextRound s).n.toNat := by
          change _ = s.n.toNat
          omega
        have hd' (j : Nat) : d (s.i.toNat + 1 + j) = ((nextRound s).pinsAt (2 * j)).draw := by
          rw [nextRound_pinsAt, Nat.add_right_comm]
          exact hd (j + 1)
        have hco' (j : Nat) (hj : j < 2 * reqs'.length + 1) : ((nextRound s).pinsAt j).cooperates = true := by
          rw [nextRound_pinsAt]
          exact hco (j + 2) (Nat.add_lt_add_right hj 2)
        have hrest := ih (s := nextRound s) rfl rfl hi (by bv_omega) hn' hd' hrounds hco'
        rw [nextRound_pinsAt, nextRound_envAfter] at hrest
        refine Exchange.after_round hp hans (hco 0 (by omega)) (hco 1 (by simp)) ?_
        rw [advance_rndAnswered_of_next herr hmore]
        exact hrest
      · obtain rfl : left = 0 := by bv_omega
        obtain ⟨rfl, rfl⟩ := Prod.mk.inj hrounds
        exact exchange_last_round hp hans hco (rndAnswered_of_last (s := roundWaiting s) herr hmore)

/-! ## The scramble commands -/

/-- Every scramble command, whatever its outcome, does on the machine what it does at transaction level, in two edges
per request and two more (rules R142, R144 to R147, R154, R238). -/
theorem exchange_scramble {s : State} {i : Instr} {j : Job} (hc : cmdTaken s = true) (hans : s.answer = none)
    (hdec : decodeCmd s.pins.cmdHdr s.pins.cmdData = .ok i) (hj : scrambleJob i = some j) {r : TxnResult}
    (hr : txnScramble j s.drawAt s.arch = r) (hco : s.cooperates (2 * r.requests.length + 1) = true) :
    Exchange (2 * r.requests.length + 2) s
      (idleWith r.arch (s.pinsAt (2 * r.requests.length + 2)) (s.envAfter (2 * r.requests.length + 2)))
      [r.rsp] r.requests := by
  have he : Edge s (acceptScramble j s) := .scramble hc hdec hj
  have hco1 : (s.pinsAt 1).cooperates = true := cooperates_pinsAt hco (Nat.succ_pos _)
  have himmediate {st : Status} {data : Block} (heq : acceptScramble j s = enterResp st data s)
      (hr' : txnScramble j s.drawAt s.arch =
        { arch := s.arch, rsp := { status := st, data := data }, requests := [] }) :
      Exchange (2 * r.requests.length + 2) s
        (idleWith r.arch (s.pinsAt (2 * r.requests.length + 2)) (s.envAfter (2 * r.requests.length + 2)))
        [r.rsp] r.requests := by
    obtain rfl := hr.symm.trans hr'
    exact (exchange_response hans hco1 st data).after_command hc (heq ▸ he)
  obtain ⟨hk, heq⟩ | ⟨hk, hbig, heq⟩ | ⟨hk, hzero, heq⟩ | ⟨hk, hpos, hle, heq⟩ := acceptScramble_cases j s
  · exact himmediate heq (by simp [txnScramble, hk])
  · exact himmediate heq (by simp [txnScramble, hk, hbig])
  · have hfmt : j.fmt = false := by
      rw [← Bool.not_eq_true]
      intro hf
      obtain ⟨hn, -⟩ := scrambleJob_fmt hj hf
      rw [hzero] at hn
      cases hn
    exact himmediate heq (by simp [txnScramble, hk, hzero, txnRounds, deliver, hfmt])
  · have hn : ¬ 128#8 < j.n := by bv_omega
    rw [heq] at he
    rw [txnScramble_of_keyed hk hn] at hr
    subst hr
    have hdraw (p : Nat) : s.drawAt (0 + p) = ((advance (startLoop j s)).pinsAt (2 * p)).draw := by
      rw [Nat.zero_add, pinsAt_advance]
      rfl
    have hrounds := exchange_rounds j.n.toNat (s := advance (startLoop j s)) rfl hans rfl (by bv_omega)
      (Nat.zero_add _) hdraw rfl (fun p hp => by rw [pinsAt_advance]; exact cooperates_pinsAt hco hp)
    rw [pinsAt_advance, envAfter_advance] at hrounds
    exact hrounds.after_command hc he

/-! ## The forms of a result -/

/-- The delivered form as a number: with FMT, the result's top 32 bits (rules R31, R172). -/
theorem deliver_eq (fmt : Bool) (r : Block) :
    deliver fmt r = if fmt then BitVec.ofNat 128 (r.toNat / 2 ^ 96) else r := by
  cases fmt with
  | false => rfl
  | true =>
    have hlt : r.toNat < 2 ^ 128 := r.isLt
    apply BitVec.eq_of_toNat_eq
    simp only [deliver, if_true, extractV4, extractLsb'_eq_ofNat_div, BitVec.toNat_setWidth, BitVec.toNat_ofNat]
    omega

theorem embedV4_eq_ofNat (a : Addr4) : embedV4 a = BitVec.ofNat 128 (a.toNat * 2 ^ 96) := by
  have hlt : a.toNat < 2 ^ 32 := a.isLt
  apply BitVec.eq_of_toNat_eq
  rw [embedV4, toNat_append_eq_mul_add, BitVec.toNat_ofNat, BitVec.toNat_ofNat]
  omega

/-- The five command forms and the job of each (rules R142, R170, R175, R178). -/
theorem scrambleJob_of_form {i : Instr} {buf0 : Block} {n : Nat} {fmt : Bool}
    (h : (i = .scramble (BitVec.ofNat 8 n) buf0 ∧ n ≤ 128 ∧ fmt = false) ∨
      (∃ a : Addr4, (i = .scrambleIpv4 a ∨ i = .scrambleIp (.v4 a)) ∧
        buf0 = BitVec.ofNat 128 (a.toNat * 2 ^ 96) ∧ n = 32 ∧ fmt = true) ∨
      ((i = .scrambleIpv6 buf0 ∨ i = .scrambleIp (.v6 buf0)) ∧ n = 128 ∧ fmt = false)) :
    n ≤ 128 ∧ scrambleJob i = some { buf0 := buf0, n := BitVec.ofNat 8 n, fmt := fmt } := by
  obtain ⟨rfl, hn, rfl⟩ | ⟨a, rfl | rfl, rfl, rfl, rfl⟩ | ⟨rfl | rfl, rfl, rfl⟩ := h
  · exact ⟨hn, rfl⟩
  · rw [← embedV4_eq_ofNat]
    exact ⟨by decide, rfl⟩
  · rw [← embedV4_eq_ofNat]
    exact ⟨by decide, rfl⟩
  · exact ⟨le_rfl, rfl⟩
  · exact ⟨le_rfl, rfl⟩

/-- On a keyed block with a valid key and no failing draw a job of up to 128 bits answers its transform, after one
request for each bit (rules R110, R141, R142). -/
theorem txnScramble_of_no_failure {buf0 : Block} {n : Nat} {fmt : Bool} {d : Nat → Draw} {a : Arch} (hn : n ≤ 128)
    (hk : a.keyed = true) (hvalid : a.ckValid = true) (hdraw : ∀ p, p < n → (d p).err = false) :
    txnScramble { buf0 := buf0, n := BitVec.ofNat 8 n, fmt := fmt } d a =
      { arch := a, rsp := { status := .ok, data := deliver fmt (scramble Config.E a.ck a.pad buf0 n) },
        requests := (List.range n).map fun p => .encrypt (padded buf0 a.pad p) } := by
  have hn8 : (BitVec.ofNat 8 n).toNat = n := by
    rw [BitVec.toNat_ofNat]
    omega
  have hle : ¬ 128#8 < BitVec.ofNat 8 n := by
    rw [BitVec.lt_def, hn8]
    exact Nat.not_lt.2 hn
  have hrounds := txnRounds_of_no_failure (buf := buf0) hvalid n 0 (by simpa using hdraw)
  rw [flipMask, Nat.zero_add, ← List.range_eq_range'] at hrounds
  rw [txnScramble_of_keyed hk hle, hn8, hrounds]
  rfl

/-- Settles O46: the command is its transaction, and the transaction without a failure is the transform. -/
theorem scrambleCommandsDeliverTheTransform : Obligations.ScrambleCommandsDeliverTheTransform := by
  intro s i buf0 n fmt hrst hp hans hv hdec hk hvalid hform hco hdraw
  have hc : cmdTaken s = true := (cmdTaken_iff s).2 ⟨hrst, hp, hv⟩
  obtain ⟨hn, hj⟩ := scrambleJob_of_form hform
  have hex := exchange_scramble hc hans hdec hj (txnScramble_of_no_failure hn hk hvalid hdraw)
    (by simpa using hco)
  simp only [List.length_map, List.length_range, deliver_eq] at hex
  exact ⟨hex.run, hex.delivered, hex.requested⟩

end Sys2Proof.Machine
end

section
/-! The acceptance of CONSTRUCT and DROP, and the handshakes of CONSTRUCT one by one (rules R122 to R126, R132,
R149). -/

namespace Sys2Proof.Machine

/-! ## Acceptance -/

theorem exec_construct (keylen : BitVec 8) (key : KeyWord) (s : State) :
    exec (.construct keylen key) s = .next (acceptConstruct keylen key s) := rfl

theorem acceptConstruct_of_wrong_length {keylen : BitVec 8} (h : keylen ≠ 32#8) (key : KeyWord) (s : State) :
    acceptConstruct keylen key s = enterResp .keyInvalidLength (BitVec.ofNat 128 keylen.toNat) s := by
  rw [acceptConstruct, if_pos h, raise_eq_enterResp, BitVec.ofNat_toNat]

theorem acceptConstruct_of_right_length (key : KeyWord) (s : State) :
    acceptConstruct 32#8 key s = { clearKeyed s with kreg := key, phase := .keyReq } :=
  if_neg (not_not.2 rfl)

/-- Settles O16: the length check comes first. -/
theorem constructWithWrongLengthIsRejected : Obligations.ConstructWithWrongLengthIsRejected := by
  intro s keylen key hlen
  rw [exec_construct, acceptConstruct_of_wrong_length hlen]
  rfl

/-- Settles O17: the old Scrambler is dropped as the new key is staged. -/
theorem constructWithRightLengthStagesTheKey : Obligations.ConstructWithRightLengthStagesTheKey := by
  intro s key
  rw [exec_construct, acceptConstruct_of_right_length]
  rfl

/-- Settles O18: `acceptDrop` is the listed write. -/
theorem dropClearsTheScrambler : Obligations.DropClearsTheScrambler := fun _ => rfl

/-! ## The core takes the request -/

theorem takeLoadkey_eq {s : State} {p : Phase} (h : s.phase.afterRequest = p) (k : Block) :
    takeLoadkey k s =
      { s with phase := p, ck := loadkeyCk k s.pins.draw, ckValid := Config.keyOk k,
               answer := some (loadkeyReply k s.pins.draw) } := by
  subst h
  rfl

theorem takeEncrypt_eq {s : State} {p : Phase} (h : s.phase.afterRequest = p) (b : Block) :
    takeEncrypt b s = { s with phase := p, answer := some (encryptReply s.ckValid s.ck b s.pins.draw) } := by
  subst h
  rfl

theorem requested_eq_some {s : State} {i : Instr} (hq : reqTaken s = true) (hi : decodeCcReq (ccReqWord s) = i) :
    requested s = some i := by
  rw [requested, if_pos hq, hi]

/-- Settles O19, phase by phase: the edge takes the request the phase offers. -/
theorem takenRequestMovesTheBlockToWait : Obligations.TakenRequestMovesTheBlockToWait := by
  intro s hrst hready hans
  refine ⟨fun hp => ?_, fun hp => ?_, fun hp => ?_⟩
  · have hq : reqTaken s = true := (reqTaken_iff s).2 ⟨hrst, .inl hp, hready, hans⟩
    have hstep := step_of_edge (.loadkey hp hq)
    rw [takeLoadkey_eq (p := .keyWait) (by rw [hp]; rfl)] at hstep
    exact ⟨requested_eq_some hq (offeredRequest_of_keyReq hp), _, _, _, hstep⟩
  · have hq : reqTaken s = true := (reqTaken_iff s).2 ⟨hrst, .inr (.inl hp), hready, hans⟩
    have hstep := step_of_edge (.encryptSeed hp hq)
    rw [takeEncrypt_eq (p := .padWait) (by rw [hp]; rfl)] at hstep
    exact ⟨requested_eq_some hq (offeredRequest_of_padReq hp), _, hstep⟩
  · have hq : reqTaken s = true := (reqTaken_iff s).2 ⟨hrst, .inr (.inr hp), hready, hans⟩
    have hstep := step_of_edge (.encryptRound hp hq)
    rw [takeEncrypt_eq (p := .rndWait) (by rw [hp]; rfl)] at hstep
    exact ⟨requested_eq_some hq (offeredRequest_of_rndReq hp), _, hstep⟩

/-! ## The block takes the answer -/

/-- While the LOADKEY is answered the block is unkeyed (rules R35, R123). -/
theorem Inv.unkeyed_of_keyWait {s : State} (h : Inv s) (hp : s.phase = .keyWait) :
    s.keyed = false ∧ s.pad = 0#128 := by
  obtain ⟨hphase, hpad, -⟩ := (inv_iff s).1 h
  simp only [PhaseInv, hp] at hphase
  obtain ⟨-, ⟨hkeyed, -⟩, -⟩ := hphase
  exact ⟨hkeyed, hpad hkeyed⟩

/-- While the seed ENCRYPT is answered the block is unkeyed, the core holds the staged cipher key, and a successful
answer is the Padding Block of the staged key (rules R35, R106, R107, R123). -/
theorem Inv.staged_of_padWait {s : State} (h : Inv s) (hp : s.phase = .padWait) :
    s.keyed = false ∧ s.pad = 0#128 ∧ s.ckValid = true ∧
      ∀ a, s.answer = some a → a.err = false → a.data = Config.E (cipherKey s.kreg) (paddingSeed s.kreg) := by
  obtain ⟨hphase, hpad, -⟩ := (inv_iff s).1 h
  simp only [PhaseInv, hp] at hphase
  obtain ⟨-, ⟨hkeyed, -⟩, -, ⟨hvalid, hck⟩, hdata⟩ := hphase
  rw [hck] at hdata
  exact ⟨hkeyed, hpad hkeyed, hvalid, hdata⟩

/-- Settles O20: the two ends of `keyAnswered`. -/
theorem loadkeyAnswerRejectsOrGoesOn : Obligations.LoadkeyAnswerRejectsOrGoesOn := by
  intro s a hrst hp hs hvalid
  have ha : ansTaken s = true := (ansTaken_iff s).2 ⟨hrst, .inl hp, hvalid, by rw [hs]; rfl⟩
  refine ⟨?_, fun h => h.unkeyed_of_keyWait hp⟩
  rw [step_of_edge (.keyAnswer hp ha hs)]
  rfl

/-- Settles O21: the two ends of `padAnswered`; the invariant says what a successful answer is. -/
theorem seedAnswerKeysTheBlock : Obligations.SeedAnswerKeysTheBlock := by
  intro s a hrst hp hs hvalid
  have ha : ansTaken s = true := (ansTaken_iff s).2 ⟨hrst, .inr (.inl hp), hvalid, by rw [hs]; rfl⟩
  refine ⟨?_, fun h => ?_⟩
  · rw [step_of_edge (.padAnswer hp ha hs)]
    rfl
  · obtain ⟨hkeyed, hpad, hck, hdata⟩ := h.staged_of_padWait hp
    exact ⟨hkeyed, hpad, hck, hdata a hs⟩

end Sys2Proof.Machine
end

section
/-! Every command word on the machine and at transaction level (rules R121, R128, R129, R154, R238). -/

namespace Sys2Proof.Machine

/-! ## A command that completes -/

/-- `CompletesIn k s r`: `k` edges, each with a handshake, bring the block back to IDLE with nothing but the
architectural state of `r`, after its one response and its requests. -/
def CompletesIn (k : Nat) (s : State) (r : TxnResult) : Prop :=
  Exchange k s (idleWith r.arch (s.pinsAt k) (s.envAfter k)) [r.rsp] r.requests

theorem Edge.pinsAt_eq {s u : State} (he : Edge s u) (j : Nat) : u.pinsAt j = s.pinsAt j := by
  obtain ⟨hpins, henv⟩ := he.signals
  rw [State.pinsAt, State.pinsAt, hpins, henv]

theorem Edge.envAfter_eq {s u : State} (he : Edge s u) (k : Nat) : u.envAfter k = s.envAfter k := by
  rw [State.envAfter, State.envAfter, he.signals.2]

theorem Edge.pinsAt_advance_eq {s u : State} (he : Edge s u) (j : Nat) : (advance u).pinsAt j = s.pinsAt (j + 1) := by
  rw [pinsAt_advance, he.pinsAt_eq]

section edges
variable {k : Nat} {s u : State} {r : TxnResult}

/-- What is left of a command after one of its edges, with the signals counted from before that edge. -/
theorem CompletesIn.exchange_of_edge (he : Edge s u) (h : CompletesIn k (advance u) r) :
    Exchange k (advance u) (idleWith r.arch (s.pinsAt (k + 1)) (s.envAfter (k + 1))) [r.rsp] r.requests := by
  rw [← he.pinsAt_advance_eq, ← he.envAfter_eq, ← envAfter_advance]
  exact h

theorem CompletesIn.after_command (hc : cmdTaken s = true) (he : Edge s u) (h : CompletesIn k (advance u) r) :
    CompletesIn (k + 1) s r :=
  (h.exchange_of_edge he).after_command hc he

theorem CompletesIn.after_request (hq : reqTaken s = true) (he : Edge s u) (h : CompletesIn k (advance u) r) :
    CompletesIn (k + 1) s { r with requests := decodeCcReq (ccReqWord s) :: r.requests } :=
  (h.exchange_of_edge he).after_request hq he

theorem CompletesIn.after_answer (ha : ansTaken s = true) (he : Edge s u) (h : CompletesIn k (advance u) r) :
    CompletesIn (k + 1) s r :=
  (h.exchange_of_edge he).after_answer ha he

/-- Once the block has entered RESP only the delivery is left (rules R57, R58). -/
theorem completesIn_enterResp (hans : u.answer = none) (hco : (u.pinsAt 1).cooperates = true) (st : Status)
    (data : Block) :
    CompletesIn 1 (advance (enterResp st data u))
      { arch := u.arch, rsp := { status := st, data := data }, requests := [] } := by
  have hpins : (advance (enterResp st data u)).pinsAt 1 = u.pinsAt 2 := pinsAt_advance u 1
  have henv : (advance (enterResp st data u)).envAfter 1 = u.envAfter 2 := envAfter_advance u 1
  rw [CompletesIn, hpins, henv]
  exact exchange_response hans hco st data

end edges

/-- A command that answers at its acceptance (rules R84, R122, R132). -/
theorem completesIn_of_immediate {s u : State} {st : Status} {data : Block} (hc : cmdTaken s = true)
    (he : Edge s (enterResp st data u)) (hans : u.answer = none) (hco : (s.pinsAt 1).cooperates = true) :
    CompletesIn 2 s { arch := u.arch, rsp := { status := st, data := data }, requests := [] } := by
  rw [← he.pinsAt_eq] at hco
  exact (completesIn_enterResp hans hco st data).after_command hc he

/-! ## The handshakes with a cooperating core -/

theorem reqTaken_of_cooperates {s : State} (hco : s.pins.cooperates = true)
    (hp : s.phase = .keyReq ∨ s.phase = .padReq ∨ s.phase = .rndReq) (hans : s.answer = none) :
    reqTaken s = true := by
  obtain ⟨hrst, -, hready, -⟩ := (Pins.cooperates_iff _).1 hco
  exact (reqTaken_iff s).2 ⟨hrst, hp, hready, hans⟩

/-- The answer of the request taken at an edge is taken at the next one (rule R104). -/
theorem ansTaken_of_cooperates {s u : State} (he : Edge s u) (hco : (s.pinsAt 1).cooperates = true)
    (hp : u.phase = .keyWait ∨ u.phase = .padWait ∨ u.phase = .rndWait) {a : CcRsp} (hs : u.answer = some a) :
    ansTaken (advance u) = true := by
  have hpins : (advance u).pins = s.pinsAt 1 := he.pinsAt_advance_eq 0
  obtain ⟨hrst, -, -, hvalid⟩ := (Pins.cooperates_iff _).1 hco
  rw [← hpins] at hrst hvalid
  exact (ansTaken_iff _).2 ⟨hrst, hp, hvalid, by rw [advance_answer, hs]; rfl⟩

/-- Cooperation for more edges is cooperation for fewer. -/
theorem cooperates_mono {s : State} {k l : Nat} (h : s.cooperates l = true) (hkl : k ≤ l) :
    s.cooperates k = true := by
  obtain ⟨hlen, hall⟩ : l ≤ s.env.length ∧ (s.env.take l).all Pins.cooperates = true := by
    simpa only [State.cooperates, Bool.and_eq_true, decide_eq_true_eq] using h
  have hshort : (s.env.take k).all Pins.cooperates = true :=
    List.all_eq_true.2 fun p hp => List.all_eq_true.1 hall p (List.take_subset_take_left _ hkl hp)
  simp [State.cooperates, hkl.trans hlen, hshort]

/-! ## CONSTRUCT -/

/-- The architectural state after the answer to the seed ENCRYPT (rule R126). -/
def seedArch (ct : CcRsp) (a : Arch) : Arch := if ct.err then a else { a with pad := ct.data, keyed := true }

/-- The response that the answer to the seed ENCRYPT leads to (rule R126). -/
def seedRsp (ct : CcRsp) : Rsp := { status := if ct.err then .encryptionError else .ok, data := 0#128 }

/-- The unkeyed block with the core's key as LOADKEY leaves it (rules R106, R123). -/
def unkeyedArch (k : Block) (d : Draw) : Arch :=
  { pad := 0#128, keyed := false, ck := loadkeyCk k d, ckValid := Config.keyOk k }

theorem txnConstruct_of_wrong_length {keylen : BitVec 8} (h : keylen ≠ 32#8) (key : KeyWord) (d : Nat → Draw)
    (a : Arch) :
    txnConstruct keylen key d a =
      { arch := a, rsp := { status := .keyInvalidLength, data := BitVec.ofNat 128 keylen.toNat }, requests := [] } := by
  rw [txnConstruct, if_pos h, BitVec.ofNat_toNat]

theorem txnConstruct_of_rejected {key : KeyWord} (h : Config.keyOk (cipherKey key) = false) (d : Nat → Draw)
    (a : Arch) :
    txnConstruct 32#8 key d a =
      { arch := unkeyedArch (cipherKey key) (d 0), rsp := { status := .keyRejected, data := 0#128 },
        requests := [.loadkey (cipherKey key)] } := by
  simp [txnConstruct, loadkeyReply, unkeyedArch, h]

theorem txnConstruct_of_accepted {key : KeyWord} (h : Config.keyOk (cipherKey key) = true) (d : Nat → Draw)
    (a : Arch) {ct : CcRsp} (hct : encryptReply true (cipherKey key) (paddingSeed key) (d 1) = ct) :
    txnConstruct 32#8 key d a =
      { arch := seedArch ct (unkeyedArch (cipherKey key) (d 0)), rsp := seedRsp ct,
        requests := [.loadkey (cipherKey key), .encrypt (paddingSeed key)] } := by
  have hck : loadkeyCk (cipherKey key) (d 0) = cipherKey key := if_pos h
  cases herr : ct.err <;>
    simp [txnConstruct, loadkeyReply, unkeyedArch, seedArch, seedRsp, h, hck, hct, herr]

/-- Whatever the answer to the seed ENCRYPT, the block enters RESP with it (rule R126). -/
theorem exists_enterResp_of_padAnswered (ct : CcRsp) (s : State) :
    ∃ u, padAnswered ct s = enterResp (seedRsp ct).status (seedRsp ct).data u ∧ u.arch = seedArch ct s.arch ∧
      u.answer = s.answer := by
  obtain ⟨herr, heq⟩ | ⟨herr, heq⟩ := padAnswered_cases ct s
  · exact ⟨s, by simp [heq, seedRsp, herr], by simp [seedArch, herr], rfl⟩
  · exact ⟨setKeyed ct.data s, by simp [heq, seedRsp, herr], by simp [seedArch, herr]; rfl, rfl⟩

/-- The second half of a CONSTRUCT: the seed ENCRYPT, its answer and the response (rules R124, R126). -/
theorem completesIn_seed {s : State} (hp : s.phase = .padReq) (hans : s.answer = none)
    (hco : ∀ j, j < 3 → (s.pinsAt j).cooperates = true) {ct : CcRsp}
    (hct : encryptReply s.ckValid s.ck (paddingSeed s.kreg) s.pins.draw = ct) :
    CompletesIn 3 s
      { arch := seedArch ct s.arch, rsp := seedRsp ct, requests := [.encrypt (paddingSeed s.kreg)] } := by
  have hq : reqTaken s = true := reqTaken_of_cooperates (hco 0 (by decide)) (.inr (.inl hp)) hans
  have hreq : Edge s (takeEncrypt (paddingSeed s.kreg) s) := .encryptSeed hp hq
  rw [takeEncrypt_eq (p := .padWait) (by rw [hp]; rfl), hct] at hreq
  have ha := ansTaken_of_cooperates hreq (hco 1 (by decide)) (.inr (.inl rfl)) rfl
  have hanswer := Edge.padAnswer rfl ha rfl
  obtain ⟨u, heq, harch, hnone⟩ := exists_enterResp_of_padAnswered ct
    { advance { s with phase := .padWait, answer := some ct } with answer := none }
  rw [heq] at hanswer
  have hco2 : (u.pinsAt 1).cooperates = true := by
    have hpins : u.pinsAt 1 = s.pinsAt 2 := (hanswer.pinsAt_eq 1).trans (hreq.pinsAt_advance_eq 1)
    rw [hpins]
    exact hco 2 (by decide)
  have hend := ((completesIn_enterResp hnone hco2 _ _).after_answer ha hanswer).after_request hq hreq
  rw [harch, offeredRequest_of_padReq hp] at hend
  exact hend

theorem keyAnswered_of_rejected {k : Block} (h : Config.keyOk k = false) (d : Draw) (s : State) :
    keyAnswered (loadkeyReply k d) s = enterResp .keyRejected 0#128 s :=
  if_pos (by simp [loadkeyReply, h])

theorem keyAnswered_of_accepted {k : Block} (h : Config.keyOk k = true) (d : Draw) (s : State) :
    keyAnswered (loadkeyReply k d) s = { s with phase := .padReq } :=
  if_neg (by simp [loadkeyReply, h])

/-- The block at the edge where it takes the answer to the LOADKEY that `s` offers, without that answer (rules R106,
R124). -/
def keyWaiting (s : State) : State :=
  { advance s with
    answer := none, phase := .keyWait, ck := loadkeyCk (cipherKey s.kreg) s.pins.draw,
    ckValid := Config.keyOk (cipherKey s.kreg) }

@[simp] theorem keyWaiting_pinsAt (s : State) (j : Nat) : (keyWaiting s).pinsAt j = s.pinsAt (j + 1) :=
  pinsAt_advance s j

/-- The LOADKEY of a CONSTRUCT is two edges, the request and the answer (rules R124, R125). -/
theorem CompletesIn.after_loadkey {k : Nat} {s : State} {r : TxnResult} (hp : s.phase = .keyReq)
    (hans : s.answer = none) (hco : s.pins.cooperates = true) (hco' : (s.pinsAt 1).cooperates = true)
    (h : CompletesIn k
      (advance (keyAnswered (loadkeyReply (cipherKey s.kreg) s.pins.draw) (keyWaiting s))) r) :
    CompletesIn (k + 2) s { r with requests := .loadkey (cipherKey s.kreg) :: r.requests } := by
  have hq : reqTaken s = true := reqTaken_of_cooperates hco (.inl hp) hans
  have hreq : Edge s (takeLoadkey (cipherKey s.kreg) s) := .loadkey hp hq
  rw [takeLoadkey_eq (p := .keyWait) (by rw [hp]; rfl)] at hreq
  have ha := ansTaken_of_cooperates hreq hco' (.inl rfl) rfl
  rw [← offeredRequest_of_keyReq hp]
  exact (h.after_answer ha (.keyAnswer rfl ha rfl)).after_request hq hreq

/-- The block in KEY_REQ of the CONSTRUCT that `s` accepts (rule R123). -/
def keyOffered (key : KeyWord) (s : State) : State := advance { clearKeyed s with kreg := key, phase := .keyReq }

@[simp] theorem keyOffered_pinsAt (key : KeyWord) (s : State) (j : Nat) :
    (keyOffered key s).pinsAt j = s.pinsAt (j + 1) :=
  pinsAt_advance s j

theorem keyOffered_draw (key : KeyWord) (s : State) : (keyOffered key s).pins.draw = s.drawAt 0 :=
  congrArg Pins.draw (keyOffered_pinsAt key s 0)

/-- The core's key is written at the LOADKEY, the block's at the acceptance (rules R104, R106, R123). -/
theorem keyWaiting_keyOffered_arch (key : KeyWord) (s : State) :
    (keyWaiting (keyOffered key s)).arch = unkeyedArch (cipherKey key) (s.drawAt 0) := by
  rw [← keyOffered_draw key s]
  rfl

/-- The block where it offers the seed ENCRYPT of the CONSTRUCT that `s` accepts (rule R125). -/
def seedOffered (key : KeyWord) (s : State) : State :=
  advance { keyWaiting (keyOffered key s) with phase := .padReq }

@[simp] theorem seedOffered_pinsAt (key : KeyWord) (s : State) (j : Nat) :
    (seedOffered key s).pinsAt j = s.pinsAt (j + 3) := by
  rw [seedOffered, pinsAt_advance]
  exact (keyWaiting_pinsAt _ (j + 1)).trans (keyOffered_pinsAt key s (j + 2))

theorem seedOffered_draw (key : KeyWord) (s : State) : (seedOffered key s).pins.draw = s.drawAt 1 :=
  congrArg Pins.draw (seedOffered_pinsAt key s 0)

theorem seedOffered_kreg (key : KeyWord) (s : State) : (seedOffered key s).kreg = key := rfl

theorem seedOffered_arch (key : KeyWord) (s : State) :
    (seedOffered key s).arch = unkeyedArch (cipherKey key) (s.drawAt 0) :=
  keyWaiting_keyOffered_arch key s

section construct
variable {s : State} {key : KeyWord} (hc : cmdTaken s = true) (hans : s.answer = none)
  (hdec : decodeCmd s.pins.cmdHdr s.pins.cmdData = .ok (.construct 32#8 key))
include hc hans hdec

/-- The first half of a CONSTRUCT: its acceptance, the LOADKEY and the answer to it (rules R123 to R125). -/
theorem CompletesIn.after_construct {k : Nat} {r : TxnResult} (hco : s.cooperates 2 = true)
    (h : CompletesIn k
      (advance (keyAnswered (loadkeyReply (cipherKey key) (s.drawAt 0)) (keyWaiting (keyOffered key s)))) r) :
    CompletesIn (k + 3) s { r with requests := .loadkey (cipherKey key) :: r.requests } := by
  have he : Edge s (acceptConstruct 32#8 key s) := .construct hc hdec
  rw [acceptConstruct_of_right_length] at he
  have hco1 : ((keyOffered key s).pinsAt 0).cooperates = true := by
    rw [keyOffered_pinsAt]
    exact cooperates_pinsAt hco (by decide)
  have hco2 : ((keyOffered key s).pinsAt 1).cooperates = true := by
    rw [keyOffered_pinsAt]
    exact cooperates_pinsAt hco (by decide)
  rw [← keyOffered_draw key s] at h
  exact (CompletesIn.after_loadkey (s := keyOffered key s) rfl hans hco1 hco2 h).after_command hc he

/-- A CONSTRUCT whose cipher key the core rejects (rules R121, R125). -/
theorem completesIn_construct_of_rejected (hrej : Config.keyOk (cipherKey key) = false)
    (hco : s.cooperates 3 = true) :
    CompletesIn 4 s
      { arch := unkeyedArch (cipherKey key) (s.drawAt 0), rsp := { status := .keyRejected, data := 0#128 },
        requests := [.loadkey (cipherKey key)] } := by
  have hco3 : ((keyWaiting (keyOffered key s)).pinsAt 1).cooperates = true := by
    rw [keyWaiting_pinsAt, keyOffered_pinsAt]
    exact cooperates_pinsAt hco (by decide)
  have hend := completesIn_enterResp rfl hco3 .keyRejected 0#128
  rw [← keyAnswered_of_rejected hrej (s.drawAt 0), keyWaiting_keyOffered_arch] at hend
  exact hend.after_construct hc hans hdec (cooperates_mono hco (by decide))

/-- A CONSTRUCT whose cipher key the core accepts (rules R121, R126). -/
theorem completesIn_construct_of_accepted (hok : Config.keyOk (cipherKey key) = true)
    (hco : s.cooperates 5 = true) {ct : CcRsp}
    (hct : encryptReply true (cipherKey key) (paddingSeed key) (s.drawAt 1) = ct) :
    CompletesIn 6 s
      { arch := seedArch ct (unkeyedArch (cipherKey key) (s.drawAt 0)), rsp := seedRsp ct,
        requests := [.loadkey (cipherKey key), .encrypt (paddingSeed key)] } := by
  have hco' (j : Nat) (hj : j < 3) : ((seedOffered key s).pinsAt j).cooperates = true := by
    rw [seedOffered_pinsAt]
    exact cooperates_pinsAt hco (by omega)
  have hck : (seedOffered key s).ck = cipherKey key := if_pos hok
  have hvalid : (seedOffered key s).ckValid = true := hok
  rw [← hvalid, ← hck, ← seedOffered_draw key s] at hct
  have hend := completesIn_seed (s := seedOffered key s) rfl rfl hco' hct
  rw [seedOffered_arch, seedOffered_kreg, seedOffered, ← keyAnswered_of_accepted hok (s.drawAt 0)] at hend
  exact hend.after_construct hc hans hdec (cooperates_mono hco (by decide))

end construct

/-- Settles O22: the core rejects the cipher key or accepts it, and then draws a failure for the seed or none. -/
theorem constructRunsToItsResponse : Obligations.ConstructRunsToItsResponse := by
  intro s key hrst hp hans hv hdec hco
  have hc : cmdTaken s = true := (cmdTaken_iff s).2 ⟨hrst, hp, hv⟩
  cases hok : Config.keyOk (cipherKey key) with
  | false =>
    have hex := completesIn_construct_of_rejected hc hans hdec hok (cooperates_mono hco (by decide))
    rw [unkeyedArch, hok] at hex
    exact ⟨⟨_, hex.run⟩, hex.delivered, hex.requested⟩
  | true =>
    have hex := completesIn_construct_of_accepted hc hans hdec hok hco rfl
    have hck : loadkeyCk (cipherKey key) (s.drawAt 0) = cipherKey key := if_pos hok
    rw [unkeyedArch, hok, hck] at hex
    refine ⟨hex.requested, ?_⟩
    cases hdraw : (s.drawAt 1).err <;> simp only [encryptReply, seedArch, seedRsp, hdraw] at hex <;>
      exact ⟨hex.run, hex.delivered⟩

/-! ## Every command word -/

/-- Every CONSTRUCT, whatever its outcome, does on the machine what it does at transaction level (rules R121, R122,
R128, R129). -/
theorem completesIn_construct {s : State} {keylen : BitVec 8} {key : KeyWord} (hc : cmdTaken s = true)
    (hans : s.answer = none) (hdec : decodeCmd s.pins.cmdHdr s.pins.cmdData = .ok (.construct keylen key))
    {r : TxnResult} (hr : txnConstruct keylen key s.drawAt s.arch = r)
    (hco : s.cooperates (2 * r.requests.length + 1) = true) : CompletesIn (2 * r.requests.length + 2) s r := by
  by_cases hlen : keylen = 32#8
  · subst hlen
    cases hok : Config.keyOk (cipherKey key) with
    | false =>
      rw [txnConstruct_of_rejected hok] at hr
      subst hr
      exact completesIn_construct_of_rejected hc hans hdec hok hco
    | true =>
      rw [txnConstruct_of_accepted hok _ _ rfl] at hr
      subst hr
      exact completesIn_construct_of_accepted hc hans hdec hok hco rfl
  · have he : Edge s (acceptConstruct keylen key s) := .construct hc hdec
    rw [acceptConstruct_of_wrong_length hlen] at he
    rw [txnConstruct_of_wrong_length hlen] at hr
    subst hr
    exact completesIn_of_immediate hc he hans (cooperates_pinsAt hco (Nat.succ_pos _))

/-- A scramble command at transaction level is that of its job (rules R140, R170, R175, R177). -/
theorem txnCommand_of_scrambleJob {hdr : Header} {data : CmdData} {i : Instr} {j : Job}
    (hdec : decodeCmd hdr data = .ok i) (hj : scrambleJob i = some j) (d : Nat → Draw) (a : Arch) :
    txnCommand hdr data d a = txnScramble j d a := by
  rw [txnCommand, hdec]
  cases i with
  | scramble nbits buffer | scrambleIpv4 addr4 | scrambleIpv6 addr6 => cases hj; rfl
  | scrambleIp addr => cases addr <;> cases hj <;> rfl
  | construct keylen key | drop | loadkey key | encrypt block => cases hj

/-- Every command word that is accepted does on the machine what it does at transaction level, in two edges and two for
each cipher request (rules R128, R154, R238). -/
theorem completesIn_command {s : State} (hc : cmdTaken s = true) (hans : s.answer = none) {r : TxnResult}
    (hr : txnCommand s.pins.cmdHdr s.pins.cmdData s.drawAt s.arch = r)
    (hco : s.cooperates (2 * r.requests.length + 1) = true) : CompletesIn (2 * r.requests.length + 2) s r := by
  have hco1 : (s.pinsAt 1).cooperates = true := cooperates_pinsAt hco (Nat.succ_pos _)
  cases hdec : decodeCmd s.pins.cmdHdr s.pins.cmdData with
  | error e =>
    rw [txnCommand, hdec] at hr
    subst hr
    exact completesIn_of_immediate hc (.illegal hc hdec) hans hco1
  | ok i =>
    obtain ⟨keylen, key, rfl⟩ | rfl | ⟨j, hj⟩ := decodeCmd_ok_cases hdec
    · rw [txnCommand, hdec] at hr
      exact completesIn_construct hc hans hdec hr hco
    · rw [txnCommand, hdec] at hr
      subst hr
      exact completesIn_of_immediate (u := clearKeyed s) hc (.drop hc hdec) hans hco1
    · rw [txnCommand_of_scrambleJob hdec hj] at hr
      exact exchange_scramble hc hans hdec hj hr hco

/-- Settles O45, command by command. -/
theorem phaseLevelRunsTheTransaction : Obligations.PhaseLevelRunsTheTransaction := by
  intro s hrst hp hans hv r k hco
  have hex := completesIn_command ((cmdTaken_iff s).2 ⟨hrst, hp, hv⟩) hans rfl hco
  exact ⟨hex.run, hex.delivered, hex.requested, hex.handshakes⟩

end Sys2Proof.Machine
end

section
/-! The transform position by position, for every cipher (rules R141, R152, R156 to R159). -/

namespace Sys2Proof.Machine

/-! ## The padded block of a round -/

/-- In the first round nothing of the buffer is read (rules R11, R157). -/
@[simp] theorem padded_zero (buf pad : Block) : padded buf pad 0 = pad :=
  eq_of_pos_eq fun _ hp => pos_padded_eq buf pad 0 hp

/-- A round reads only the positions before its own (rules R11, R156). -/
theorem padded_eq_of_agree {b₁ b₂ : Block} {k : Nat} (h : ∀ p, p < k → pos b₁ p = pos b₂ p) (pad : Block) :
    padded b₁ pad k = padded b₂ pad k := by
  refine eq_of_pos_eq fun p hp => ?_
  rw [pos_padded_eq b₁ pad k hp, pos_padded_eq b₂ pad k hp]
  by_cases hpk : p < k
  · simp [hpk, h p hpk]
  · simp [hpk]

/-! ## The result at a position -/

section transform
variable (E : Block → Block → Block) (ck pad : Block)

/-- The flip mask holds at each position before the count the flip bit of that position's round (rules R23, R152). -/
theorem pos_flipMask_eq (buf : Block) {n p : Nat} (hn : n ≤ 128) (hp : p < n) :
    pos (flipMask E ck pad buf n) p = flipBit (E ck (padded buf pad p)) := by
  induction n with
  | zero => omega
  | succ n ih =>
    rw [flipMask, pos_setFlip_eq _ _ (by omega) (by omega)]
    by_cases hpn : p = n
    · subst hpn
      simp [pos_flipMask_beyond E ck pad buf (by omega) (le_refl p)]
    · simp [hpn, ih (by omega) (by omega)]

theorem pos_scramble_of_lt (buf : Block) {n p : Nat} (hn : n ≤ 128) (hp : p < n) :
    pos (scramble E ck pad buf n) p = (pos buf p ^^ flipBit (E ck (padded buf pad p))) := by
  rw [scramble, pos_xor, pos_flipMask_eq E ck pad buf hn hp]

theorem pos_scramble_of_le (buf : Block) {n p : Nat} (hn : n ≤ 128) (hp : n ≤ p) :
    pos (scramble E ck pad buf n) p = pos buf p := by
  rw [scramble, pos_xor, pos_flipMask_beyond E ck pad buf hn hp, Bool.xor_false]

/-- Two buffers that agree before position `k` have it inverted alike, so the transform keeps whether they agree
there (rules R156, R158). -/
theorem pos_scramble_eq_iff {b₁ b₂ : Block} {n k : Nat} (hn : n ≤ 128) (h : ∀ p, p < k → pos b₁ p = pos b₂ p) :
    pos (scramble E ck pad b₁ n) k = pos (scramble E ck pad b₂ n) k ↔ pos b₁ k = pos b₂ k := by
  by_cases hk : k < n
  · rw [pos_scramble_of_lt E ck pad b₁ hn hk, pos_scramble_of_lt E ck pad b₂ hn hk, padded_eq_of_agree h,
      Bool.xor_left_inj]
  · rw [pos_scramble_of_le E ck pad b₁ hn (Nat.not_lt.1 hk), pos_scramble_of_le E ck pad b₂ hn (Nat.not_lt.1 hk)]

/-- The result determines the buffer, position by position from the first (rule R158). -/
theorem scramble_injective {n : Nat} (hn : n ≤ 128) : Function.Injective fun buf => scramble E ck pad buf n := by
  intro b₁ b₂ (h : scramble E ck pad b₁ n = scramble E ck pad b₂ n)
  have hpos (p : Nat) : pos b₁ p = pos b₂ p := by
    induction p using Nat.strong_induction_on with
    | _ p ih => exact (pos_scramble_eq_iff E ck pad hn ih).1 (by rw [h])
  exact eq_of_pos_eq fun p _ => hpos p

end transform

/-! ## The statements about the transform -/

/-- Settles O54: there are finitely many blocks, so an injective transform is onto. -/
theorem transformIsABijection : Obligations.TransformIsABijection := by
  intro E ck pad n hn
  have : Finite Block := Finite.of_injective BitVec.toFin BitVec.toFin_injective
  exact Finite.injective_iff_bijective.1 (scramble_injective E ck pad hn)

/-- Settles O50: before the count the flip bit of the position's round, from it on the buffer. -/
theorem resultPositionByPosition : Obligations.ResultPositionByPosition := by
  intro E ck pad buf n p hn _
  exact ⟨pos_scramble_of_le E ck pad buf hn, pos_scramble_of_lt E ck pad buf hn⟩

/-- Settles O53: the buffers agree before each of the positions in question, so the results agree there just where
they do. -/
theorem sharedLeadingBitsArePreserved : Obligations.SharedLeadingBitsArePreserved := by
  intro E ck pad b₁ b₂ n k hn _ h
  refine ⟨fun p hp => ?_, fun _ hne => ?_⟩
  · exact (pos_scramble_eq_iff E ck pad hn fun q hq => h q (hq.trans hp)).2 (h p hp)
  · exact mt (pos_scramble_eq_iff E ck pad hn h).1 hne

/-- Settles O55: the flip bit of a position does not depend on the count, so the count only selects positions. -/
theorem bitCountSelectsTheLeadingBits : Obligations.BitCountSelectsTheLeadingBits := by
  intro E ck pad buf n m hn hm
  refine ⟨by simp [scramble, flipMask], fun p hp => pos_scramble_of_lt E ck pad buf le_rfl hp, ?_, fun p hpn hpm => ?_⟩
  · refine eq_of_pos_eq fun p hp => ?_
    rw [pos_or, pos_and, pos_and, pos_not _ hp, pos_himask_eq n hp]
    by_cases hpn : p < n
    · simp [hpn, pos_scramble_of_lt E ck pad buf hn hpn, pos_scramble_of_lt E ck pad buf le_rfl hp]
    · simp [hpn, pos_scramble_of_le E ck pad buf hn (Nat.not_lt.1 hpn)]
  · rw [pos_scramble_of_lt E ck pad buf hn hpn, pos_scramble_of_lt E ck pad buf hm hpm]

/-- Settles O52: the padded block of the first round is the Padding Block. -/
theorem firstFlipBitIsIndependentOfTheAddress : Obligations.FirstFlipBitIsIndependentOfTheAddress := by
  intro E ck pad buf n hpos hn
  have h := pos_scramble_of_lt E ck pad buf hn hpos
  rwa [padded_zero] at h

end Sys2Proof.Machine
end

section
/-! The acceptance of the scramble commands case by case (rules R144 to R147), and the answer of a round (rules R150,
R151). -/

namespace Sys2Proof.Machine

/-! ## Acceptance -/

section acceptance
variable {j : Job} {s : State}

theorem acceptScramble_of_unkeyed (hk : s.keyed = false) : acceptScramble j s = enterResp .notKeyed 0#128 s := if_pos hk

theorem acceptScramble_of_range (hk : s.keyed = true) (hn : 128 < j.n.toNat) :
    acceptScramble j s = enterResp .nbitsRange (BitVec.ofNat 128 j.n.toNat) s := by
  have hlt : 128#8 < j.n := hn
  simp [acceptScramble, hk, hlt, BitVec.ofNat_toNat]

theorem acceptScramble_of_zero (hk : s.keyed = true) (hn : j.n = 0#8) :
    acceptScramble j s = enterResp .ok j.buf0 s := by
  simp [acceptScramble, hk, hn]

theorem acceptScramble_of_count (hk : s.keyed = true) (hpos : 1 ≤ j.n.toNat) (hle : j.n.toNat ≤ 128) :
    acceptScramble j s = startLoop j s := by
  have hlt : ¬ 128#8 < j.n := Nat.not_lt.2 hle
  have hzero : j.n ≠ 0#8 := by bv_omega
  simp [acceptScramble, hk, hlt, hzero]

/-- On a keyed block a scramble command with a count from 1 to 128 starts its rounds (rules R146, R171, R175). -/
theorem exec_of_count {i : Instr} (hj : scrambleJob i = some j) (hk : s.keyed = true) (hpos : 1 ≤ j.n.toNat)
    (hle : j.n.toNat ≤ 128) : exec i s = .next (startLoop j s) := by
  rw [exec_of_scrambleJob hj, acceptScramble_of_count hk hpos hle]

end acceptance

/-- A typed command has 32 or 128 rounds, whatever its address (rules R145, R171, R175). -/
theorem jobIp_count (ip : IpAddr) : 1 ≤ (jobIp ip).n.toNat ∧ (jobIp ip).n.toNat ≤ 128 := by
  cases ip with
  | v4 addr4 => exact (by decide : 1 ≤ (32#8).toNat ∧ (32#8).toNat ≤ 128)
  | v6 addr6 => exact (by decide : 1 ≤ (128#8).toNat ∧ (128#8).toNat ≤ 128)

/-- Each typed command loads the job of its address (rules R170, R175, R177). -/
theorem exists_scrambleJob_of_typed {i : Instr}
    (h : (∃ a, i = .scrambleIpv4 a) ∨ (∃ b, i = .scrambleIpv6 b) ∨ ∃ ip, i = .scrambleIp ip) :
    ∃ ip, scrambleJob i = some (jobIp ip) := by
  obtain ⟨a, rfl⟩ | ⟨b, rfl⟩ | ⟨ip, rfl⟩ := h
  · exact ⟨.v4 a, rfl⟩
  · exact ⟨.v6 b, rfl⟩
  · exact ⟨ip, rfl⟩

/-- Settles O23: all four commands run the one acceptance action, which looks at KEYED first. -/
theorem scrambleOnUnkeyedBlockIsNotKeyed : Obligations.ScrambleOnUnkeyedBlockIsNotKeyed := by
  intro s i hk hform
  obtain ⟨j, hj⟩ : ∃ j, scrambleJob i = some j := by
    obtain ⟨nbits, buffer, rfl⟩ | htyped := hform
    · exact ⟨jobRaw nbits buffer, rfl⟩
    · obtain ⟨ip, hip⟩ := exists_scrambleJob_of_typed htyped
      exact ⟨jobIp ip, hip⟩
  rw [exec_of_scrambleJob hj, acceptScramble_of_unkeyed hk]
  rfl

/-- Settles O24: NBITS is the count of a SCRAMBLE; the count of a typed command is in range. -/
theorem bitCountAbove128IsRejected : Obligations.BitCountAbove128IsRejected := by
  intro s hk
  refine ⟨fun nbits buffer hn => ?_, fun i htyped => ?_⟩
  · exact congrArg Host.Outcome.next (acceptScramble_of_range (j := jobRaw nbits buffer) hk hn)
  · obtain ⟨ip, hip⟩ := exists_scrambleJob_of_typed htyped
    obtain ⟨hpos, hle⟩ := jobIp_count ip
    exact ⟨_, exec_of_count hip hk hpos hle, rfl⟩

/-- Settles O25: a count of zero answers at the acceptance. -/
theorem zeroBitScrambleReturnsItsInput : Obligations.ZeroBitScrambleReturnsItsInput := by
  intro s buffer hk
  exact congrArg Host.Outcome.next (acceptScramble_of_zero (j := jobRaw 0#8 buffer) hk rfl)

/-- Settles O26: the rounds start on the job of SCRAMBLE. -/
theorem scrambleStartsItsRounds : Obligations.ScrambleStartsItsRounds := by
  intro s nbits buffer hk hpos hle
  exact exec_of_count (j := jobRaw nbits buffer) rfl hk hpos hle

/-! ## The answer of a round -/

/-- In RND_WAIT an edge at which the core answers is the block's reaction to that answer (rules R104, R150, R151). -/
theorem step_of_round_answer {s : State} {a : CcRsp} (hrst : s.pins.rst = false) (hp : s.phase = .rndWait)
    (hs : s.answer = some a) (hvalid : s.pins.ccRspValid = true) :
    step s = .next (advance (rndAnswered a { s with answer := none })) := by
  have ha : ansTaken s = true := (ansTaken_iff s).2 ⟨hrst, .inr (.inr hp), hvalid, by rw [hs]; rfl⟩
  exact step_of_edge (.rndAnswer hp ha hs)

/-- Settles O32: I does not wrap, so the round after it is a round of the command just when `I + 1` is below N. -/
theorem successfulRoundAccumulatesItsFlipBit : Obligations.SuccessfulRoundAccumulatesItsFlipBit := by
  intro s a hrst hp hs hvalid herr hin flip' r
  have hi : s.i + 1#8 = BitVec.ofNat 8 (s.i.toNat + 1) := by bv_omega
  have hnext : s.i + 1#8 < s.n ↔ s.i.toNat + 1 < s.n.toNat := by bv_omega
  rw [step_of_round_answer hrst hp hs hvalid]
  by_cases hmore : s.i.toNat + 1 < s.n.toNat
  · rw [if_pos hmore, rndAnswered_of_next (s := { s with answer := none }) herr (hnext.2 hmore), ← hi]
    rfl
  · rw [if_neg hmore, rndAnswered_of_last (s := { s with answer := none }) herr (mt hnext.1 hmore), ← deliver_eq]
    rfl

/-- Settles O33: a failing answer raises ENCRYPTION_ERROR, which clears FLIP and keeps KEYED and PAD. -/
theorem failingRoundDeliversNothing : Obligations.FailingRoundDeliversNothing := by
  intro s a hrst hp hs hvalid herr
  rw [step_of_round_answer hrst hp hs hvalid, rndAnswered_of_err herr]
  rfl

end Sys2Proof.Machine
end

section
/-! A scramble command whose rounds meet a failing draw (rules R151, R154, R198). -/

namespace Sys2Proof.Machine

/-- With a valid key an ENCRYPT fails just where the core draws a failure (rule R107). -/
theorem encryptReply_err_of_valid {v : Bool} (hvalid : v = true) (ck b : Block) (d : Draw) :
    (encryptReply v ck b d).err = d.err := by
  obtain ⟨-, herr, heq⟩ | ⟨hv | herr, heq⟩ := encryptReply_cases v ck b d
  · rw [heq, herr]
  · rw [hvalid] at hv
    cases hv
  · rw [heq, herr]

/-- The rounds from position `i` on end without a result at the first failing draw, `k` rounds later, after the
requests up to and with the failing one (rules R142, R151). -/
theorem txnRounds_of_first_failure {buf : Block} {d : Nat → Draw} {a : Arch} (hvalid : a.ckValid = true)
    {left i k : Nat} (hk : k < left) (hdraw : ∀ p, p < i + k → (d p).err = false) (hfail : (d (i + k)).err = true)
    (flip : Block) :
    txnRounds buf d a left i flip =
      (none, (List.range' i (k + 1)).map fun p => .encrypt (padded buf a.pad p)) := by
  induction k generalizing left i flip with
  | zero =>
    obtain ⟨left, rfl⟩ := Nat.exists_eq_add_one_of_ne_zero (by omega : left ≠ 0)
    exact txnRounds_of_err ((encryptReply_err_of_valid hvalid a.ck _ _).trans hfail) left flip
  | succ k ih =>
    obtain ⟨left, rfl⟩ := Nat.exists_eq_add_one_of_ne_zero (by omega : left ≠ 0)
    have hok := (encryptReply_err_of_valid hvalid a.ck (padded buf a.pad i) (d i)).trans (hdraw i (by omega))
    have hnext : i + (k + 1) = i + 1 + k := by omega
    rw [hnext] at hdraw hfail
    rw [txnRounds_of_ok rfl hok, ih (by omega) hdraw hfail, List.range'_succ (n := k + 1)]
    rfl

/-- A job of up to 128 bits on a keyed block is its rounds, counted as a number (rule R142). -/
theorem txnScramble_of_rounds {buf0 : Block} {n : Nat} {d : Nat → Draw} {a : Arch} {res : Option Block}
    {reqs : List Instr} (hn : n ≤ 128) (hkeyed : a.keyed = true) (hrounds : txnRounds buf0 d a n 0 0#128 = (res, reqs))
    (fmt : Bool) :
    txnScramble { buf0 := buf0, n := BitVec.ofNat 8 n, fmt := fmt } d a =
      { arch := a, rsp := roundsRsp fmt buf0 res, requests := reqs } := by
  have hn8 : (BitVec.ofNat 8 n).toNat = n := by
    rw [BitVec.toNat_ofNat]
    omega
  have hle : ¬ 128#8 < BitVec.ofNat 8 n := by
    rw [BitVec.lt_def, hn8]
    exact Nat.not_lt.2 hn
  rw [txnScramble_of_keyed hkeyed hle, hn8, hrounds]

/-- On a keyed block with a valid key a job whose first failing draw comes at round `k` answers ENCRYPTION_ERROR after
`k + 1` requests (rules R142, R151, R154). -/
theorem txnScramble_of_first_failure {n k : Nat} {d : Nat → Draw} {a : Arch} (hn : n ≤ 128) (hkeyed : a.keyed = true)
    (hvalid : a.ckValid = true) (hk : k < n) (hdraw : ∀ p, p < k → (d p).err = false) (hfail : (d k).err = true)
    (buf0 : Block) (fmt : Bool) :
    txnScramble { buf0 := buf0, n := BitVec.ofNat 8 n, fmt := fmt } d a =
      { arch := a, rsp := { status := .encryptionError, data := 0#128 },
        requests := (List.range (k + 1)).map fun p => .encrypt (padded buf0 a.pad p) } := by
  rw [← Nat.zero_add k] at hdraw hfail
  rw [List.range_eq_range']
  exact txnScramble_of_rounds hn hkeyed (txnRounds_of_first_failure hvalid hk hdraw hfail 0#128) fmt

/-- The five command forms and the job of each, the form of the result left open (rules R142, R170, R175, R178). -/
theorem exists_scrambleJob_of_form {i : Instr} {buf0 : Block} {n : Nat}
    (h : (i = .scramble (BitVec.ofNat 8 n) buf0 ∧ n ≤ 128) ∨
      (∃ a : Addr4, (i = .scrambleIpv4 a ∨ i = .scrambleIp (.v4 a)) ∧
        buf0 = BitVec.ofNat 128 (a.toNat * 2 ^ 96) ∧ n = 32) ∨
      ((i = .scrambleIpv6 buf0 ∨ i = .scrambleIp (.v6 buf0)) ∧ n = 128)) :
    n ≤ 128 ∧ ∃ fmt, scrambleJob i = some { buf0 := buf0, n := BitVec.ofNat 8 n, fmt := fmt } := by
  obtain ⟨hi, hn⟩ | ⟨a, hi, hbuf, hn⟩ | ⟨hi, hn⟩ := h
  · exact (scrambleJob_of_form (.inl ⟨hi, hn, rfl⟩)).imp_right fun hj => ⟨false, hj⟩
  · exact (scrambleJob_of_form (.inr (.inl ⟨a, hi, hbuf, hn, rfl⟩))).imp_right fun hj => ⟨true, hj⟩
  · exact (scrambleJob_of_form (.inr (.inr ⟨hi, hn, rfl⟩))).imp_right fun hj => ⟨false, hj⟩

/-- Settles O47: the command is its transaction, and the transaction ends at the first failing draw. -/
theorem firstFailingRoundEndsTheCommand : Obligations.FirstFailingRoundEndsTheCommand := by
  intro s i buf0 n j hrst hp hans hv hdec hkeyed hvalid hform hjn hco hdraw hfail
  have hc : cmdTaken s = true := (cmdTaken_iff s).2 ⟨hrst, hp, hv⟩
  obtain ⟨hn, fmt, hj⟩ := exists_scrambleJob_of_form hform
  have hex := exchange_scramble hc hans hdec hj
    (txnScramble_of_first_failure hn hkeyed hvalid hjn hdraw hfail buf0 fmt) (by simpa [Nat.mul_add] using hco)
  have hedges : 2 * (j + 1) + 2 = 2 * j + 4 := by omega
  simp only [List.length_map, List.length_range, hedges] at hex
  exact ⟨hex.run, hex.delivered, hex.requested⟩

end Sys2Proof.Machine
end

section
/-! The typed address commands: their acceptance (rules R170, R171, R175, R177, R178), the 4-byte form of a result
(rules R172, R179) and their agreement with SCRAMBLE and with each other (rule R180). -/

namespace Sys2Proof.Machine

/-! ## Acceptance -/

/-- On a keyed block a typed command starts the rounds of its address (rules R171, R175, R178). -/
theorem exec_of_typed {s : State} {i : Instr} {ip : IpAddr} (hj : scrambleJob i = some (jobIp ip))
    (hk : s.keyed = true) : exec i s = .next (startLoop (jobIp ip) s) := by
  obtain ⟨hpos, hle⟩ := jobIp_count ip
  exact exec_of_count hj hk hpos hle

/-- Settles O27: the buffer of the job is the embedded address, as a number. -/
theorem scrambleIpv4EmbedsAndStarts : Obligations.ScrambleIpv4EmbedsAndStarts := by
  intro s addr4 hk
  rw [← embedV4_eq_ofNat]
  exact exec_of_typed (ip := .v4 addr4) rfl hk

/-- Settles O28: the job is that of SCRAMBLE with 128 bits. -/
theorem scrambleIpv6StartsItsRounds : Obligations.ScrambleIpv6StartsItsRounds := by
  intro s addr6
  exact ⟨exec_of_typed (ip := .v6 addr6) rfl, rfl⟩

/-- Settles O29: each version has the job of its own command, so the two statements above say how it starts. -/
theorem scrambleIpDispatchesOnTheVersion : Obligations.ScrambleIpDispatchesOnTheVersion := by
  intro s addr4 addr6
  obtain ⟨hv6, -⟩ := scrambleIpv6StartsItsRounds s addr6
  exact ⟨rfl, rfl, fun hk => ⟨scrambleIpv4EmbedsAndStarts s addr4 hk, hv6 hk⟩⟩

/-! ## The 4-byte form of a result -/

theorem extractV4_toNat (r : Block) : (extractV4 r).toNat = r.toNat / 2 ^ 96 := by
  have hlt : r.toNat < 2 ^ 128 := r.isLt
  rw [extractV4, extractLsb'_eq_ofNat_div, BitVec.toNat_ofNat]
  omega

/-- The 4-byte address holds the first 32 positions of the result (rules R7, R172). -/
theorem getMsbD_extractV4 (r : Block) {p : Nat} (hp : p < 32) : (extractV4 r).getMsbD p = pos r p := by
  have hbit : 96 + (31 - p) = 127 - p := by omega
  have hlt : 31 - p < 32 := by omega
  rw [pos_eq_getLsbD r (by omega), extractV4, BitVec.getMsbD_eq_getLsbD, BitVec.getLsbD_extractLsb']
  simp [hp, hlt, hbit]

theorem extractV4_eq_of_pos_eq {r r' : Block} (h : ∀ p, p < 32 → pos r p = pos r' p) : extractV4 r = extractV4 r' :=
  BitVec.eq_of_getMsbD_eq fun p hp => by rw [getMsbD_extractV4 r hp, getMsbD_extractV4 r' hp, h p hp]

theorem deliver_v4_toNat (r : Block) : (deliver true r).toNat = (extractV4 r).toNat := by
  rw [deliver, if_pos rfl]
  exact BitVec.toNat_setWidth_of_le (by decide)

/-- The delivered address stands in the last 32 positions of the response (rules R31, R172). -/
theorem getMsbD_deliver_v4 (r : Block) {p : Nat} (hp : p < 32) : (deliver true r).getMsbD (96 + p) = pos r p := by
  rw [deliver, if_pos rfl, BitVec.getMsbD_setWidth, ← getMsbD_extractV4 r hp]
  simp

/-- The leading bits of a block that begins with an address are those of the address (rules R7, R171). -/
theorem pos_append_addr4 (addr4 : Addr4) (x : BitVec 96) {p : Nat} (hp : p < 32) :
    pos (addr4 ++ x) p = addr4.getMsbD p := by
  rw [pos, BitVec.getMsbD_append, if_neg (Nat.not_le.2 hp)]

theorem pos_append_addr4_eq {addr4 addr4' : Addr4} {k : Nat} (hk : k ≤ 32)
    (h : ∀ p, p < k → addr4.getMsbD p = addr4'.getMsbD p) (x x' : BitVec 96) {p : Nat} (hp : p < k) :
    pos (addr4 ++ x) p = pos (addr4' ++ x') p := by
  rw [pos_append_addr4 addr4 x (hp.trans_le hk), pos_append_addr4 addr4' x' (hp.trans_le hk), h p hp]

/-- A command with a 4-byte result and no more than 128 rounds answers four bytes: an error without data, or an
extracted address (rules R144, R151, R172). -/
theorem txnScramble_fmt_data_lt {j : Job} (hfmt : j.fmt = true) (hn : ¬ 128#8 < j.n) (d : Nat → Draw) (a : Arch) :
    (txnScramble j d a).rsp.data.toNat < 2 ^ 32 := by
  cases hk : a.keyed with
  | false => simp [txnScramble, hk]
  | true =>
    rw [txnScramble_of_keyed hk hn, hfmt]
    cases (txnRounds j.buf0 d a j.n.toNat 0 0#128).1 with
    | none => exact Nat.two_pow_pos 32
    | some flip =>
      change (deliver true (j.buf0 ^^^ flip)).toNat < 2 ^ 32
      rw [deliver_v4_toNat]
      exact (extractV4 _).isLt

/-- Settles O57: the 32 rounds of an IPv4 address are in range. -/
theorem ipv4ResponsesAreFourBytes : Obligations.Ipv4ResponsesAreFourBytes := fun d a _ =>
  ⟨txnScramble_fmt_data_lt rfl (by decide : ¬ 128#8 < 32#8) d a, rfl⟩

/-! ## The typed commands and SCRAMBLE -/

section agreement
variable {d : Nat → Draw} {a : Arch} (hk : a.keyed = true) (hvalid : a.ckValid = true)
  (hdraw : ∀ j, (d j).err = false)
include hk hvalid hdraw

theorem txnScrambleIpv4_data (addr4 : Addr4) :
    (txnScrambleIpv4 addr4 d a).rsp.data = deliver true (scramble Config.E a.ck a.pad (addr4 ++ 0#96) 32) :=
  congrArg (·.rsp.data) (txnScramble_of_no_failure (n := 32) (by decide) hk hvalid fun p _ => hdraw p)

theorem txnScrambleRaw_data (buf0 : Block) {n : Nat} (hn : n ≤ 128) :
    (txnScrambleRaw (BitVec.ofNat 8 n) buf0 d a).rsp.data = scramble Config.E a.ck a.pad buf0 n :=
  congrArg (·.rsp.data) (txnScramble_of_no_failure hn hk hvalid fun p _ => hdraw p)

theorem txnScrambleIpv6_data (addr6 : Block) :
    (txnScrambleIpv6 addr6 d a).rsp.data = scramble Config.E a.ck a.pad addr6 128 :=
  txnScrambleRaw_data hk hvalid hdraw addr6 le_rfl

end agreement

/-- The first 32 positions of the result over an address do not depend on what follows the address, nor on whether
more rounds follow (rules R156, R159). -/
theorem pos_scramble_addr4 (E : Block → Block → Block) (ck pad : Block) (addr4 : Addr4) (x : BitVec 96) {p : Nat}
    (hp : p < 32) :
    pos (scramble E ck pad (addr4 ++ 0#96) 32) p = pos (scramble E ck pad (addr4 ++ x) 128) p := by
  obtain ⟨-, -, -, hcount⟩ :=
    bitCountSelectsTheLeadingBits E ck pad (addr4 ++ 0#96) 32 128 (by decide) le_rfl
  obtain ⟨hprefix, -⟩ := sharedLeadingBitsArePreserved E ck pad (addr4 ++ 0#96) (addr4 ++ x) 128 32 le_rfl (by decide)
    fun _ => pos_append_addr4_eq le_rfl (fun _ _ => rfl) 0#96 x
  exact (hcount p hp (by omega)).trans (hprefix p hp)

/-- Addresses with the same leading bits get IPv4 results with the same leading bits (rule R156). -/
theorem pos_scramble_embedded (E : Block → Block → Block) (ck pad : Block) {addr4 addr4' : Addr4} {k : Nat}
    (hk : k ≤ 32) (h : ∀ p, p < k → addr4.getMsbD p = addr4'.getMsbD p) {p : Nat} (hp : p < k) :
    pos (scramble E ck pad (addr4 ++ 0#96) 32) p = pos (scramble E ck pad (addr4' ++ 0#96) 32) p := by
  obtain ⟨hprefix, -⟩ := sharedLeadingBitsArePreserved E ck pad (addr4 ++ 0#96) (addr4' ++ 0#96) 32 k (by decide) hk
    fun _ => pos_append_addr4_eq hk h 0#96 0#96
  exact hprefix p hp

/-- Settles O56: without a failure every command delivers its transform, and the transforms agree on the leading
positions. -/
theorem typedCommandsAgreeWithScramble : Obligations.TypedCommandsAgreeWithScramble := by
  intro d a addr4 addr4' x addr6 hkeyed hvalid hdraw
  have hv4 := txnScrambleIpv4_data hkeyed hvalid hdraw
  have hraw := txnScrambleRaw_data hkeyed hvalid hdraw (addr4 ++ 0#96) (n := 32) (by decide)
  refine ⟨?_, rfl, ?_, fun k hk h p hp => ?_⟩
  · rw [hv4, hraw, deliver_eq, if_pos rfl]
  · rw [hv4, txnScrambleIpv6_data hkeyed hvalid hdraw, deliver_v4_toNat, ← extractV4_toNat,
      extractV4_eq_of_pos_eq fun p hp => pos_scramble_addr4 Config.E a.ck a.pad addr4 x hp]
  · have hp32 : p < 32 := hp.trans_le hk
    rw [hv4, hv4, getMsbD_deliver_v4 _ hp32, getMsbD_deliver_v4 _ hp32]
    exact pos_scramble_embedded Config.E a.ck a.pad hk h hp

end Sys2Proof.Machine
end

section
/-! The status a command ends with, by command (rule R206). -/

namespace Sys2Proof.Machine

/-! ## The outcomes of CONSTRUCT -/

theorem seedRsp_status (ct : CcRsp) : (seedRsp ct).status = .ok ∨ (seedRsp ct).status = .encryptionError := by
  cases herr : ct.err with
  | false => exact .inl (by simp [seedRsp, herr])
  | true => exact .inr (by simp [seedRsp, herr])

/-- A CONSTRUCT ends at its length, at its key, or with the answer to the seed (rules R121, R122, R129). -/
theorem txnConstruct_status (keylen : BitVec 8) (key : KeyWord) (d : Nat → Draw) (a : Arch) :
    let st := (txnConstruct keylen key d a).rsp.status
    st = .ok ∨ st = .keyInvalidLength ∨ st = .keyRejected ∨ st = .encryptionError := by
  intro st
  by_cases hlen : keylen = 32#8
  · subst hlen
    cases hok : Config.keyOk (cipherKey key) with
    | false => exact .inr (.inr (.inl (by simp only [st, txnConstruct_of_rejected hok])))
    | true =>
      have hst : st = (seedRsp (encryptReply true (cipherKey key) (paddingSeed key) (d 1))).status :=
        congrArg (·.rsp.status) (txnConstruct_of_accepted hok d a rfl)
      rw [hst]
      exact (seedRsp_status _).imp_right fun herr => .inr (.inr herr)
  · exact .inr (.inl (by simp only [st, txnConstruct_of_wrong_length hlen]))

/-! ## The outcomes of the scramble commands -/

theorem roundsRsp_status (fmt : Bool) (buf : Block) (res : Option Block) :
    (roundsRsp fmt buf res).status = .ok ∨ (roundsRsp fmt buf res).status = .encryptionError := by
  cases res with
  | none => exact .inr rfl
  | some flip => exact .inl rfl

/-- A job whose count is in range is refused for want of a key, or ends with its rounds (rules R142, R144). -/
theorem txnScramble_status_of_count {j : Job} (hn : ¬ 128#8 < j.n) (d : Nat → Draw) (a : Arch) :
    let st := (txnScramble j d a).rsp.status
    st = .ok ∨ st = .encryptionError ∨ st = .notKeyed := by
  intro st
  cases hk : a.keyed with
  | false => exact .inr (.inr (by simp [st, txnScramble, hk]))
  | true =>
    have hst : st = (roundsRsp j.fmt j.buf0 (txnRounds j.buf0 d a j.n.toNat 0 0#128).1).status :=
      congrArg (·.rsp.status) (txnScramble_of_keyed hk hn d)
    rw [hst]
    exact (roundsRsp_status _ _ _).imp_right .inl

/-- Only a count above 128 adds a status, and it comes after the test of KEYED (rules R144, R145, R198). -/
theorem txnScramble_status (j : Job) (d : Nat → Draw) (a : Arch) :
    let st := (txnScramble j d a).rsp.status
    st = .ok ∨ st = .encryptionError ∨ st = .nbitsRange ∨ st = .notKeyed := by
  intro st
  by_cases hn : 128#8 < j.n
  · cases hk : a.keyed with
    | false => exact .inr (.inr (.inr (by simp [st, txnScramble, hk])))
    | true => exact .inr (.inr (.inl (by simp [st, txnScramble, hk, hn])))
  · exact (txnScramble_status_of_count hn d a).imp_right (.imp_right .inr)

/-- The count of a typed command is always in range (rules R145, R171, R175, R177). -/
theorem txnCommand_status_of_typed {hdr : Header} {data : CmdData} {i : Instr} {ip : IpAddr}
    (hdec : decodeCmd hdr data = .ok i) (hj : scrambleJob i = some (jobIp ip)) (d : Nat → Draw) (a : Arch) :
    let st := (txnCommand hdr data d a).rsp.status
    st = .ok ∨ st = .encryptionError ∨ st = .notKeyed := by
  obtain ⟨-, hle⟩ := jobIp_count ip
  rw [txnCommand_of_scrambleJob hdec hj]
  exact txnScramble_status_of_count (BitVec.not_lt.2 hle) d a

/-! ## Every command word -/

/-- Settles O49: the command word decodes to one row of the opcode map, and each row has its statuses. -/
theorem statusesAreThoseOfTheCommand : Obligations.StatusesAreThoseOfTheCommand := by
  intro hdr data d a st
  cases hdec : decodeCmd hdr data with
  | error e =>
    change st = .illegalCmd
    simp only [st, txnCommand, hdec, txnIllegal]
  | ok i =>
    cases i with
    | construct keylen key =>
      have hrsp : txnCommand hdr data d a = txnConstruct keylen key d a := by rw [txnCommand, hdec]
      simpa only [st, hrsp] using txnConstruct_status keylen key d a
    | drop =>
      change st = .ok
      simp only [st, txnCommand, hdec, txnDrop]
    | scramble nbits buffer =>
      have hrsp : txnCommand hdr data d a = txnScramble (jobRaw nbits buffer) d a :=
        txnCommand_of_scrambleJob hdec rfl d a
      simpa only [st, hrsp] using txnScramble_status (jobRaw nbits buffer) d a
    | scrambleIpv4 addr4 => exact txnCommand_status_of_typed (ip := .v4 addr4) hdec rfl d a
    | scrambleIpv6 addr6 => exact txnCommand_status_of_typed (ip := .v6 addr6) hdec rfl d a
    | scrambleIp addr => exact txnCommand_status_of_typed hdec rfl d a
    | loadkey key | encrypt block => cases decodeCmd_eq_iff.1 hdec

end Sys2Proof.Machine
end

section
/-! The reset edge (rules R220, R221), and the way back to IDLE with a cooperating environment (rules R232, R233,
R239). A measure bounds the edges that are left: it is zero in IDLE alone, and every edge of a command takes from it. -/

namespace Sys2Proof.Machine

/-! ## Reset -/

/-- No channel transfers a word at an edge with `rst = 1` (rules R59, R221). -/
theorem handshake_of_reset {s : State} (hr : s.pins.rst = true) : handshake s = false := by
  simp [handshake, cmdTaken, reqTaken, ansTaken, rspTaken, hr]

/-- Settles O35: whatever the phase, the edge is the reset edge, and IDLE is what `cmd_ready` shows. -/
theorem resetEdgeOverridesEverything : Obligations.ResetEdgeOverridesEverything := by
  intro s hr
  have hstep := step_of_reset hr
  refine ⟨handshake_of_reset hr, ⟨s.pins.draw.ck, hstep⟩, fun t ht => ?_⟩
  rw [eq_advance_of_edge ht (.reset hr)]
  rfl

/-! ## A cooperating environment keeps the block going -/

/-- A request is pending exactly in the `_WAIT` phases (rules R63, R104). -/
theorem Inv.answer_isSome_iff {s : State} (h : Inv s) :
    s.answer.isSome = true ↔ s.phase = .keyWait ∨ s.phase = .padWait ∨ s.phase = .rndWait := by
  obtain ⟨⟨-, hpending⟩, -⟩ : (_ ∧ pendingInv s = true) ∧ keyedInv s = true := by
    simpa only [shapeInv, Bool.and_eq_true] using h.shape
  exact (pendingInv_iff s).1 hpending

/-- Outside IDLE every edge at which the environment cooperates has a handshake (rules R105, R232, R233). -/
theorem handshake_of_cooperates {s : State} (h : Inv s) (hco : s.pins.cooperates = true)
    (hbusy : s.phase ≠ .idle) : handshake s = true := by
  obtain ⟨hrst, hrsp, -, hvalid⟩ := (Pins.cooperates_iff _).1 hco
  have hrequest (hreq : s.phase = .keyReq ∨ s.phase = .padReq ∨ s.phase = .rndReq) : handshake s = true := by
    have hnone : s.answer = none := by
      rw [← Option.not_isSome_iff_eq_none, h.answer_isSome_iff]
      rcases hreq with hreq | hreq | hreq <;> simp [hreq]
    simp [handshake, reqTaken_of_cooperates hco hreq hnone]
  have hanswer (hwait : s.phase = .keyWait ∨ s.phase = .padWait ∨ s.phase = .rndWait) : handshake s = true := by
    simp [handshake, (ansTaken_iff s).2 ⟨hrst, hwait, hvalid, h.answer_isSome_iff.2 hwait⟩]
  cases hphase : s.phase with
  | idle => exact absurd hphase hbusy
  | keyReq | padReq | rndReq => exact hrequest (by simp [hphase])
  | keyWait | padWait | rndWait => exact hanswer (by simp [hphase])
  | resp => simp [handshake, (rspTaken_iff s).2 ⟨hrst, hphase, hrsp⟩]

/-! ## The edges that are left -/

/-- The edges that a command needs at most until the block is in IDLE, when every edge has a handshake: two for each
round after the one in progress, and those of the phases still to come (rules R42, R154). -/
def edgesLeft (s : State) : Nat :=
  match s.phase with
  | .idle => 0
  | .resp => 1
  | .padWait => 2
  | .padReq => 3
  | .keyWait => 4
  | .keyReq => 5
  | .rndWait => 2 * (s.n.toNat - (s.i.toNat + 1)) + 2
  | .rndReq => 2 * (s.n.toNat - (s.i.toNat + 1)) + 3

theorem edgesLeft_eq_zero_iff (s : State) : edgesLeft s = 0 ↔ s.phase = .idle := by
  cases hp : s.phase <;> simp [edgesLeft, hp]

/-- In the rounds the position is below a bit count of at most 128 (rules R27, R28). -/
theorem Inv.round_bounds {s : State} (h : Inv s) (hp : s.phase = .rndReq ∨ s.phase = .rndWait) :
    s.i.toNat < s.n.toNat ∧ s.n.toNat ≤ 128 := by
  obtain ⟨hphase, -⟩ := (inv_iff s).1 h
  have hshape : RoundShape s := by
    rcases hp with hp | hp
    all_goals
      simp only [PhaseInv, hp] at hphase
      obtain ⟨-, hshape, -⟩ := hphase
      exact hshape
  obtain ⟨-, -, hin, hn, -⟩ := hshape
  exact ⟨hin, hn⟩

/-- The longest way back is that of 128 rounds (rule R239). -/
theorem Inv.edgesLeft_le {s : State} (h : Inv s) : edgesLeft s ≤ 257 := by
  cases hp : s.phase with
  | rndReq | rndWait =>
    obtain ⟨-, hn⟩ := h.round_bounds (by simp [hp])
    simp only [edgesLeft, hp]
    omega
  | idle | resp | padWait | padReq | keyWait | keyReq => simp [edgesLeft, hp]

/-- An answer in a round leaves a round less, or nothing but the response (rules R150, R151). -/
theorem edgesLeft_rndAnswered_lt {s : State} (h : Inv s) (hp : s.phase = .rndWait) (a : CcRsp) :
    edgesLeft (rndAnswered a { s with answer := none }) < edgesLeft s := by
  obtain ⟨hin, hn⟩ := h.round_bounds (.inr hp)
  obtain ⟨-, heq⟩ | ⟨-, hnext, heq⟩ | ⟨-, -, heq⟩ := rndAnswered_cases a { s with answer := none } <;> rw [heq]
  · simp [edgesLeft, hp]
  · have hsucc : (s.i + 1#8).toNat = s.i.toNat + 1 := by bv_omega
    have hmore : s.i.toNat + 1 < s.n.toNat := hsucc ▸ hnext
    simp only [edgesLeft, hp, hsucc]
    omega
  · simp [edgesLeft, hp]

/-- Every edge of a command at which the environment cooperates brings the block nearer to IDLE (rules R42, R232,
R233). -/
theorem Edge.edgesLeft_lt {s u : State} (he : Edge s u) (h : Inv s) (hco : s.pins.cooperates = true)
    (hbusy : s.phase ≠ .idle) : edgesLeft u < edgesLeft s := by
  have hcmd (hc : cmdTaken s = true) : s.phase = .idle := ((cmdTaken_iff s).1 hc).2.1
  cases he with
  | reset hr =>
    obtain ⟨hrst, -⟩ := (Pins.cooperates_iff _).1 hco
    rw [hrst] at hr
    cases hr
  | construct hc hd => exact absurd (hcmd hc) hbusy
  | drop hc hd => exact absurd (hcmd hc) hbusy
  | scramble hc hd hj => exact absurd (hcmd hc) hbusy
  | illegal hc hd => exact absurd (hcmd hc) hbusy
  | loadkey hp hq => simp [edgesLeft, hp, Phase.afterRequest]
  | encryptSeed hp hq => simp [edgesLeft, hp, Phase.afterRequest]
  | encryptRound hp hq => simp [edgesLeft, hp, Phase.afterRequest]
  | @keyAnswer a hp ha hs =>
    obtain ⟨-, heq⟩ | ⟨-, heq⟩ := keyAnswered_cases a { s with answer := none } <;> rw [heq] <;>
      simp [edgesLeft, hp]
  | @padAnswer a hp ha hs =>
    obtain ⟨-, heq⟩ | ⟨-, heq⟩ := padAnswered_cases a { s with answer := none } <;> rw [heq] <;>
      simp [edgesLeft, hp]
  | @rndAnswer a hp ha hs => exact edgesLeft_rndAnswered_lt h hp a
  | deliver hd =>
    obtain ⟨-, hresp, -⟩ := (rspTaken_iff s).1 hd
    simp [edgesLeft, hresp]
  | wait hr hh => simp [handshake_of_cooperates h hco hbusy] at hh

/-- As many edges with a cooperating environment as are left bring the block to IDLE. -/
theorem reaches_idle_of_edgesLeft_le {k : Nat} {s : State} (h : Inv s)
    (hco : ∀ j, j < k → (s.pinsAt j).cooperates = true) (hleft : edgesLeft s ≤ k) :
    ∃ l t, l ≤ k ∧ run l s = .next t ∧ t.phase = .idle := by
  induction k generalizing s with
  | zero => exact ⟨0, s, Nat.le_refl 0, rfl, (edgesLeft_eq_zero_iff s).1 (Nat.le_zero.1 hleft)⟩
  | succ k ih =>
    by_cases hp : s.phase = .idle
    · exact ⟨0, s, Nat.zero_le _, rfl, hp⟩
    · obtain ⟨u, he⟩ := exists_edge s
      have hlt : edgesLeft u < edgesLeft s := he.edgesLeft_lt h (hco 0 (Nat.succ_pos k)) hp
      have hinv : Inv (advance u) := (inv_advance_iff u).2 (inv_of_edge h he)
      obtain ⟨l, t, hl, hrun, ht⟩ := ih hinv (he.forall_pinsAt_advance (P := fun p => p.cooperates = true) hco)
        (Nat.le_of_lt_succ (hlt.trans_le hleft))
      exact ⟨l + 1, t, Nat.succ_le_succ hl, by rw [run_succ_of_step (step_of_edge he), hrun], ht⟩

/-- Settles O48: the invariant bounds the edges that are left, in whatever phase. -/
theorem cooperatingEnvironmentBringsTheBlockToIdle : Obligations.CooperatingEnvironmentBringsTheBlockToIdle := by
  intro s h hnow hlater
  refine reaches_idle_of_edgesLeft_le h (fun j hj => ?_) h.edgesLeft_le
  cases j with
  | zero => exact hnow
  | succ j => exact cooperates_pinsAt hlater (Nat.lt_of_succ_lt_succ hj)

end Sys2Proof.Machine
end
